-- ==== Sys2Proof/Config.lean ====
section
/-! DEFINITION. What an implementation fixes (the record of spec/00_scope.md R5) and the free values.
The values themselves are `Sys2Proof.Machine.params` (Machine/Params.lean); every type of the model
that has a width or a number of words takes it from there. -/

namespace Sys2Proof

/-- R69: one row of a schedule, `s'[out] = ROTR(s[a] xor s[b], rot) + s[c]`, for a working state of
`slots` words. -/
structure ScheduleRow (slots : Nat) where
  out : Fin slots
  a   : Fin slots
  b   : Fin slots
  rot : Nat
  c   : Fin slots
deriving DecidableEq, Repr

/-- R5: the parameters of the source as one configuration record. -/
structure Params where
  /-- `W`, bits per word. -/
  wordBits   : Nat
  /-- `NS`, words in the working state. -/
  stateWords : Nat
  /-- `NK`, key words. -/
  keyWords   : Nat
  /-- `NN`, nonce words. -/
  nonceWords : Nat
  /-- `NMAC`, words of `reservedMacState`. -/
  macWords   : Nat
  /-- `CTRW`, bits of the block counter. -/
  ctrBits    : Nat
  /-- `NR`, rounds per block. -/
  rounds     : Nat
  /-- `BLK`, bytes per keystream block and per chunk. -/
  blockLen   : Nat
  /-- `C0`, the fixed public constant word. -/
  c0         : BitVec wordBits
  /-- `KEYLEN`, the required byte length of the key buffer. -/
  keyLen     : Nat
  /-- `NONCELEN`, the required byte length of the nonce buffer. -/
  nonceLen   : Nat
  /-- The even schedule with `ROT_E` (R91, R69). -/
  even       : List (ScheduleRow stateWords)
  /-- The odd schedule with `ROT_O` (R92, R69). -/
  odd        : List (ScheduleRow stateWords)
  /-- `KEY_SLOT`, the slot of each key word. -/
  keySlot    : Vector (Fin stateWords) keyWords
  /-- `NONCE_SLOT`, the slot of each nonce word. -/
  nonceSlot  : Vector (Fin stateWords) nonceWords
  /-- `CTR_SLOT`, the slot that receives the counter. -/
  ctrSlot    : Fin stateWords
  /-- `CONST_SLOT`, the slot that receives `C0`. -/
  constSlot  : Fin stateWords
deriving DecidableEq, Repr

/-- R25, R33, 93 U5: the free value of `words` reserved words of `bits` bits after the hardware reset
numbered `n` (log 7). -/
opaque Config.macAfterReset (bits words : Nat) : Nat → Vector (BitVec bits) words

end Sys2Proof
end

