-- ==== Sys2Proof/Machine/Params.lean ====
section
/-! DEFINITION. The values of the configuration record, as the spec prints them
(spec/00_scope.md R5, spec/30_encoding.md R69, spec/93_implementation_defined.md U9). -/

namespace Sys2Proof.Machine

/-- R69: the even schedule, rows E0 to E7 (R91). -/
def evenSchedule : List (ScheduleRow 8) :=
  [⟨1, 1, 2, 33, 3⟩, ⟨2, 3, 0, 27, 0⟩, ⟨3, 0, 3, 57, 1⟩, ⟨7, 2, 1, 40, 2⟩,
   ⟨5, 5, 6, 33, 7⟩, ⟨4, 7, 4, 27, 4⟩, ⟨0, 4, 7, 57, 5⟩, ⟨6, 6, 5, 40, 6⟩]

/-- R69: the odd schedule, rows O0 to O7 (R92). -/
def oddSchedule : List (ScheduleRow 8) :=
  [⟨4, 0, 2, 5, 0⟩, ⟨3, 1, 0, 42, 2⟩, ⟨2, 3, 1, 56, 3⟩, ⟨5, 2, 3, 18, 1⟩,
   ⟨6, 4, 6, 5, 4⟩, ⟨1, 5, 4, 42, 6⟩, ⟨0, 7, 5, 56, 7⟩, ⟨7, 6, 7, 18, 5⟩]

/-- R5, R15, U9: the parameters, unaudited by the spec's own word (UNVERIFIED, log 12). Reducible, so
that a width written as a field and the same width written as a number are one. -/
@[reducible] def params : Params where
  wordBits   := 64
  stateWords := 8
  keyWords   := 4
  nonceWords := 2
  macWords   := 2
  ctrBits    := 64
  rounds     := 32
  blockLen   := 64
  c0         := 0xF0F1F2F3F4F5F6F7
  keyLen     := 32
  nonceLen   := 16
  even       := evenSchedule
  odd        := oddSchedule
  keySlot    := #v[1, 2, 3, 6]
  nonceSlot  := #v[4, 7]
  ctrSlot    := 5
  constSlot  := 0

end Sys2Proof.Machine
end

