-- ==== Sys2Proof/Word.lean ====
section
/-! DEFINITION. The word and byte types of spec/00_scope.md R7 and R11, with the widths and counts of
the configuration record (R5). -/

namespace Sys2Proof

/-- R7: an unsigned integer held in `W` bits. -/
abbrev Word := BitVec Machine.params.wordBits

/-- R11: an unsigned integer from 0 to 255. -/
abbrev Byte := BitVec 8

/-- A file of `n` word registers, word 0 first. -/
abbrev Words (n : Nat) := Vector Word n

/-- R13: the `NS` words of a working state, slot 0 first. -/
abbrev Slots := Words Machine.params.stateWords

/-- R23: the block counter, `CTRW` bits. -/
abbrev Counter := BitVec Machine.params.ctrBits

end Sys2Proof
end

