-- ==== Sys2Proof/Syntax.lean ====
section
/-! DEFINITION. The instructions: the six rows of spec/opcode_table.json. -/

namespace Sys2Proof

/-- One constructor per row of the opcode table. The first four are host commands
(spec/30_encoding.md R61), the last two the micro-operations of the round unit (R68). -/
inductive Instr where
  /-- `INIT` (R101): the announced lengths of `KEYBUF` and `NONCEBUF`, in bytes (R62). -/
  | init (klen nlen : Nat)
  /-- `RESET` (R102). -/
  | reset
  /-- `GENBLOCK` (R103). -/
  | genblock
  /-- `XORKS` (R120): the announced length of `SRC`, in bytes (R63). -/
  | xorks (len : Nat)
  /-- `RND.E`, the even round (R91). -/
  | rndE
  /-- `RND.O`, the odd round (R92). -/
  | rndO
deriving DecidableEq, Repr

end Sys2Proof
end

