-- ==== Sys2Proof/Machine/State.lean ====
section
/-! DEFINITION. The state of the unit (spec/10_state.md R20), the command in progress, the
interface (spec/30_encoding.md R60), the reasons a step can stop, and the reset state (R33). -/

namespace Sys2Proof.Machine

/-- R26: the two states of the sequencer. -/
inductive Phase where
  | idle
  | gen
deriving DecidableEq, Repr

/-- R67: the responses the unit produces. -/
inductive Response where
  | ok
  | lengthError
  | notKeyed
  | illegalCommand
deriving DecidableEq, Repr

/-- What remains of an accepted command (log 4): the framing of R66 and the chunk offset of R31. -/
inductive Task where
  /-- A command that raised an error: `left` payload bytes to discard, then the response (R66, R138). -/
  | discard (left : Nat) (r : Response)
  /-- `INIT`: `left` payload bytes still to take, `got` already taken (R62, R101). -/
  | takeInit (left : Nat) (got : List Byte)
  /-- `GENBLOCK`: the block is to be generated, or is being generated (R103). -/
  | genblock
  /-- `XORKS`: the loop head at chunk offset `off`, or the block of that chunk being generated (R120). -/
  | chunk (off len : Nat)
  /-- `XORKS`: the block is ready; `left` bytes of the chunk still to take, `got` taken (R120). -/
  | takeSrc (off len left : Nat) (got : List Byte)
  /-- Output bytes to deliver, then `XORKS` goes on at `(off, len)` or the command responds `OK`. -/
  | emit (bytes : List Byte) (resume : Option (Nat × Nat))
  /-- Only the response is still to be delivered. -/
  | respond (r : Response)
deriving DecidableEq, Repr

/-- R60: the host's side of the channels, and the reset input. The host changes these between
steps (Machine/HostPort.lean); the unit takes from `cmd` and `din` and adds to `dout` and `rsp`. -/
structure Port where
  /-- The hardware reset input is asserted (R150). -/
  rst       : Bool
  /-- Command words the host offers, the first offered first. -/
  cmd       : List (BitVec 32)
  /-- Payload bytes the host offers, the first offered first. -/
  din       : List Byte
  /-- The host takes output bytes (R160). -/
  doutReady : Bool
  /-- The host takes responses (R163). -/
  rspReady  : Bool
  /-- Output bytes handed to the host, the oldest first. -/
  dout      : List Byte
  /-- Responses handed to the host, the oldest first. -/
  rsp       : List Response
deriving DecidableEq, Repr

/-- The machine: the registers of R20, the command in progress, the interface. -/
structure State where
  /-- R21. -/
  key   : Words params.keyWords
  /-- R22. -/
  nonce : Words params.nonceWords
  /-- R23: the block counter. -/
  ctr   : Counter
  /-- R24: the working state at the start of each round. -/
  ms    : Slots
  /-- R24: the outputs of the round. -/
  ns    : Slots
  /-- R25: dead state; no operation but the hardware reset writes it, none reads it (log 7). -/
  mac   : Words params.macWords
  /-- R26. -/
  phase : Phase
  /-- R27: the round index. -/
  rnd   : BitVec 5
  /-- R28. -/
  keyed : Bool
  /-- R29. -/
  busy  : Bool
  /-- The command in progress (log 4). -/
  task  : Option Task
  /-- R60: the interface (log 2). -/
  port  : Port
  /-- The model's own: which free value of `mac` comes next (log 7). -/
  fresh : Nat
deriving DecidableEq, Repr

/-- The unit has no fault: an error is a response (R138), a hang is a state that waits (U14).
No constructor, so that the type itself says that no step ends here (log 16; safe). -/
inductive Fault where
deriving DecidableEq, Repr

/-- Why an instruction has no meaning in the model. -/
inductive Refusal where
  /-- Raised only by a refused arm of `exec`; safe. No arm of this model raises it. -/
  | notModelled (mnemonic : String)
deriving DecidableEq, Repr

/-- The interface before the host has done anything (DESIGN CHOICE, log 8). -/
def Port.reset : Port where
  rst       := false
  cmd       := []
  din       := []
  doutReady := true
  rspReady  := true
  dout      := []
  rsp       := []

/-- R33: the state after hardware reset; `mac`, which R33 leaves unspecified, is zero here
(DESIGN CHOICE, log 7). -/
def State.reset : State where
  key   := Vector.replicate params.keyWords 0
  nonce := Vector.replicate params.nonceWords 0
  ctr   := 0
  ms    := Vector.replicate params.stateWords 0
  ns    := Vector.replicate params.stateWords 0
  mac   := Vector.replicate params.macWords 0
  phase := .idle
  rnd   := 0
  keyed := false
  busy  := false
  task  := none
  port  := Port.reset
  fresh := 0

end Sys2Proof.Machine
end

