-- ==== Sys2Proof/Machine/Flags.lean ====
section
/-! DEFINITION. Response codes and outputs of the unit. There are no condition codes (spec/10_state.md
R30); the status outputs are those of R32, the handshake outputs those of spec/30_encoding.md R60. -/

namespace Sys2Proof.Machine

/-- R67: the 3-bit response code. -/
def Response.code : Response → BitVec 3
  | .ok             => 0
  | .lengthError    => 1
  | .notKeyed       => 2
  | .illegalCommand => 3

/-- R23: the status output `ctr_o`. -/
def State.ctrO (s : State) : Counter := s.ctr

/-- R28: the status output `keyed_o`. -/
def State.keyedO (s : State) : Bool := s.keyed

/-- R29: the status output `busy_o`. -/
def State.busyO (s : State) : Bool := s.busy

/-- R60: `cmd_ready` is 1 exactly when `busy = 0` and `rst` is not asserted. -/
def State.cmdReady (s : State) : Bool := !s.busy && !s.port.rst

/-- R60, R66: the unit takes a payload byte. -/
def State.dinReady (s : State) : Bool :=
  !s.port.rst &&
  match s.task with
  | some (.discard left _)       => decide (0 < left)
  | some (.takeInit left _)      => decide (0 < left)
  | some (.takeSrc _ _ left _)   => decide (0 < left)
  | some .genblock               => false
  | some (.chunk _ _)            => false
  | some (.emit _ _)             => false
  | some (.respond _)            => false
  | none                         => false

/-- R60: the output byte offered on the data-out channel, if any (`dout_valid`, `dout`). -/
def State.doutOffer (s : State) : Option Byte :=
  if s.port.rst then none
  else match s.task with
  | some (.emit bytes _)       => bytes.head?
  | some (.discard _ _)        => none
  | some (.takeInit _ _)       => none
  | some (.takeSrc _ _ _ _)    => none
  | some .genblock             => none
  | some (.chunk _ _)          => none
  | some (.respond _)          => none
  | none                       => none

/-- R60, R67: the response code offered on the response channel, if any (`rsp_valid`, `rsp`). -/
def State.rspOffer (s : State) : Option (BitVec 3) :=
  if s.port.rst then none
  else match s.task with
  | some (.respond r)          => some r.code
  | some (.discard _ _)        => none
  | some (.takeInit _ _)       => none
  | some (.takeSrc _ _ _ _)    => none
  | some .genblock             => none
  | some (.chunk _ _)          => none
  | some (.emit _ _)           => none
  | none                       => none

end Sys2Proof.Machine
end

