-- ==== Sys2Proof/Machine/Operands.lean ====
section
/-! DEFINITION. Operand forms: rotation, the Word Codec (spec/40_word_codec.md), buffer reads
(spec/20_memory.md R40, R43), payload framing (spec/30_encoding.md R66) and chunking
(spec/43_keystream.md R121). -/

namespace Sys2Proof.Machine

/-- R10: `ROTR(x, n)` for `0 < n < W`. -/
def rotr (x : Word) (n : Nat) : Word := (x >>> n) ||| (x <<< (params.wordBits - n))

/-- R12, R40: `MemRead(BUF[off], n)`, for `off + n ≤ len(BUF)`. -/
def memRead (buf : List Byte) (off n : Nat) : List Byte := (buf.drop off).take n

/-- R5, R80: bytes per word. -/
abbrev wordBytes : Nat := params.wordBits / 8

/-- R80: `B2W`, big-endian, for a sequence of 8 bytes. -/
def b2w (b : List Byte) : Word := b.foldl (fun acc x => (acc <<< 8) ||| x.setWidth params.wordBits) 0

/-- R81: `W2B`: byte `i` is `(w >> (8 * (7 - i))) mod 256`. -/
def w2b (w : Word) : List Byte :=
  (List.range wordBytes).map fun i => (w >>> (8 * (wordBytes - 1 - i))).setWidth 8

/-- R83: `BUF2WORDS_n`: word `i` is `B2W` of the bytes at offsets `8i` to `8i + 7`. -/
def buf2words (n : Nat) (buf : List Byte) : Words n :=
  Vector.ofFn fun i => b2w (memRead buf (wordBytes * i) wordBytes)

/-- R84: `WORDS2BUF`. -/
def words2buf {n : Nat} (v : Words n) : List Byte := v.toList.flatMap w2b

/-- R9, R122: byte-wise exclusive OR, lane by lane; as long as the shorter sequence. -/
def xorBytes (a b : List Byte) : List Byte := List.zipWith (· ^^^ ·) a b

/-- R62, R101: the lengths an `INIT` must announce. -/
def lengthsRight (klen nlen : Nat) : Bool := klen == params.keyLen && nlen == params.nonceLen

/-- R62, R83: the key words of a payload `KEYBUF || NONCEBUF` of 48 bytes. -/
def keyOf (payload : List Byte) : Words params.keyWords :=
  buf2words params.keyWords (memRead payload 0 params.keyLen)

/-- R62, R83: the nonce words of a payload `KEYBUF || NONCEBUF` of 48 bytes. -/
def nonceOf (payload : List Byte) : Words params.nonceWords :=
  buf2words params.nonceWords (memRead payload params.keyLen params.nonceLen)

/-- R66: how many payload bytes an instruction consumes. -/
def payloadLen : Instr → Nat
  | .init klen nlen => klen + nlen
  | .reset          => 0
  | .genblock       => 0
  | .xorks len      => len
  | .rndE           => 0
  | .rndO           => 0

/-- R121: `ceil(len / 64)`, the number of chunks of an `XORKS`. -/
def chunkCount (len : Nat) : Nat := (len + (params.blockLen - 1)) / params.blockLen

/-- R120: `min(64, len - off)`, the length of the chunk at `off`. -/
def chunkLen (off len : Nat) : Nat := min params.blockLen (len - off)

end Sys2Proof.Machine
end

