-- ==== Sys2Proof/Machine/Ops.lean ====
section
/-! DEFINITION. The named operations over registers and channels that the meanings share: the channel
transfers (spec/30_encoding.md R60, R66), the error response (spec/60_exceptions.md R138), the
round (spec/41_round.md) and block generation (spec/42_cipher_fsm.md R104 to R106). -/

namespace Sys2Proof.Machine

/-! ### Channels -/

/-- R66: `n` payload bytes are taken from the data-in channel. -/
def State.consume (n : Nat) (s : State) : State :=
  { s with port := { s.port with din := s.port.din.drop n } }

/-- R50 (d): output bytes are handed to the host in ascending offset. -/
def State.deliver (bytes : List Byte) (s : State) : State :=
  { s with port := { s.port with dout := s.port.dout ++ bytes } }

/-- R29, R66: the response is handed to the host and the command is over. -/
def State.answer (r : Response) (s : State) : State :=
  { s with busy := false, task := none, port := { s.port with rsp := s.port.rsp ++ [r] } }

/-- R29, R111: a command has been accepted and `t` remains of it. -/
def State.accept (t : Task) (s : State) : State := { s with busy := true, task := some t }

/-- The command in progress goes on with `t`. -/
def State.goOn (t : Task) (s : State) : State := { s with task := some t }

/-- R60, R111: the command channel after the host's offered words are `ws`. -/
def State.withCmd (ws : List (BitVec 32)) (s : State) : State :=
  { s with port := { s.port with cmd := ws } }

/-- R163: the host has offered the `nIn` payload bytes, takes the `nOut` output bytes and takes the
response, so that the command runs to its end as the one step of R14 (log 1). -/
def State.served (nIn nOut : Nat) (s : State) : Bool :=
  decide (nIn ≤ s.port.din.length) && (decide (nOut = 0) || s.port.doutReady) && s.port.rspReady

/-! ### Errors -/

/-- R138: what an error does: the payload is consumed and discarded, the code is delivered, no
register is written. There is nothing to return from (R139). -/
def State.raise (r : Response) (payload : Nat) (s : State) : State := (s.consume payload).answer r

/-- R138 for a host that may not serve the command at once (log 1). -/
def State.fail (r : Response) (payload : Nat) (s : State) : State :=
  if s.served payload 0 then s.raise r payload else s.accept (.discard payload r)

/-! ### The round -/

/-- R68: which of the two schedules a round uses. -/
inductive Parity where
  | even
  | odd
deriving DecidableEq, Repr

/-- R69: the schedule of a parity. -/
def schedule : Parity → List (ScheduleRow params.stateWords)
  | .even => params.even
  | .odd  => params.odd

/-- R69, R96: the value a row gives to its output slot, read from the snapshot `s` (R93). -/
def rowValue (s : Slots) (r : ScheduleRow params.stateWords) : Word :=
  rotr (s[r.a] ^^^ s[r.b]) r.rot + s[r.c]

/-- R90, R96: `Round(s, par)` in tabular form; every row reads the snapshot `s` (R93). -/
def round (p : Parity) (s : Slots) : Slots :=
  (schedule p).foldl (fun acc r => acc.set r.out (rowValue s r)) s

/-- R27, R68: `par = rnd[0]`. -/
def parityOf (rnd : BitVec 5) : Parity := if rnd.getLsbD 0 then .odd else .even

/-- R105: one round: `ns <- Round(ms, par)`, then `ms <- ns`, `rnd <- rnd + 1` in 5 bits. -/
def State.roundStep (p : Parity) (s : State) : State :=
  { s with ns := round p s.ms, ms := round p s.ms, rnd := s.rnd + 1 }

/-! ### Block generation -/

/-- R104: words put into their slots, the first word into the first listed slot (D8). -/
def place (slots : List (Fin params.stateWords)) (ws : List Word) (s : Slots) : Slots :=
  (slots.zip ws).foldl (fun acc p => acc.set p.1 p.2) s

/-- R104, R5: the initial working state, each word at the slot the configuration names. -/
def initialState (key : Words params.keyWords) (nonce : Words params.nonceWords) (ctr : Counter) :
    Slots :=
  place [params.ctrSlot] [ctr.setWidth params.wordBits] <|
  place params.nonceSlot.toList nonce.toList <|
  place params.keySlot.toList key.toList <|
  place [params.constSlot] [params.c0] (Vector.replicate params.stateWords 0)

/-- R104: the state load. -/
def State.stateLoad (s : State) : State :=
  { s with phase := .gen, rnd := 0, ms := initialState s.key s.nonce s.ctr }

/-- R105: `k` rounds, the parity of each taken from `rnd`. -/
def State.rounds : Nat → State → State
  | 0, s     => s
  | k + 1, s => State.rounds k (s.roundStep (parityOf s.rnd))

/-- R106: the finish: the counter advances, the sequencer is idle, `rnd` is 0; the block is `ms`. -/
def State.finish (s : State) : State := { s with ctr := s.ctr + 1, phase := .idle, rnd := 0 }

/-- R104 to R107: `GenBlock()` as one indivisible action; the block is the `ms` it leaves (R112). -/
def State.genBlock (s : State) : State := (s.stateLoad.rounds params.rounds).finish

/-- R103, R120: the block just produced as the bytes of `WORDS2BUF`. -/
def State.blockBytes (s : State) : List Byte := words2buf s.ms

/-! ### Registers that commands write -/

/-- R101: the registers a successful `INIT` writes, from its 48 payload bytes. -/
def State.install (payload : List Byte) (s : State) : State :=
  { s with key := keyOf payload, nonce := nonceOf payload, ctr := 0, keyed := true }

/-- R102: the register `RESET` writes. -/
def State.clearCtr (s : State) : State := { s with ctr := 0 }

/-! ### Hardware reset -/

/-- R33, R150, R152: the whole state of the unit is replaced; the host keeps what it was handed and
what it offers: the payload not consumed stays offered until the host withdraws it (DESIGN CHOICE,
log 25). `mac` is unspecified, hence a free value (log 7). -/
def State.hardwareReset (s : State) : State :=
  { State.reset with
    mac   := Config.macAfterReset params.wordBits params.macWords s.fresh
    fresh := s.fresh + 1
    port  := s.port }

end Sys2Proof.Machine
end

