-- ==== Sys2Proof/Machine/Cipher.lean ====
section
/-! DEFINITION. `INIT`, `RESET` and `GENBLOCK` (spec/42_cipher_fsm.md). Each runs to its end as one
step when the host serves it (R14, R163), and is otherwise accepted, to be continued by the
micro-steps of Machine/Sequencer.lean (log 1). -/

namespace Sys2Proof.Machine

/-- R101: `INIT` accepted with the right lengths, its payload still to be taken. -/
def State.beginInit (s : State) : State := s.accept (.takeInit (params.keyLen + params.nonceLen) [])

/-- R101: `INIT` with the right lengths and its whole payload. -/
def State.initNow (s : State) : State :=
  let n := params.keyLen + params.nonceLen
  ((s.install (memRead s.port.din 0 n)).consume n).answer .ok

/-- `INIT` (R101, R132): the length check comes first and looks only at the command word (R137). -/
def execInit (klen nlen : Nat) (s : State) : Host.Outcome State Fault Refusal :=
  .next <|
    if lengthsRight klen nlen then
      if s.served (klen + nlen) 0 then s.initNow else s.beginInit
    else s.fail .lengthError (klen + nlen)

/-- `RESET` (R102): writes `ctr` only; cannot fail, and does not set `keyed` (D12). -/
def execReset (s : State) : Host.Outcome State Fault Refusal :=
  .next <|
    if s.served 0 0 then s.clearCtr.answer .ok else s.clearCtr.accept (.respond .ok)

/-- R103: `GENBLOCK` on a keyed unit whose host takes the 64 bytes and the response. -/
def State.genblockNow (s : State) : State :=
  ((s.genBlock).deliver s.genBlock.blockBytes).answer .ok

/-- `GENBLOCK` (R103, R134). -/
def execGenblock (s : State) : Host.Outcome State Fault Refusal :=
  .next <|
    if s.keyed then
      if s.served 0 params.blockLen then s.genblockNow else s.accept .genblock
    else s.fail .notKeyed 0

end Sys2Proof.Machine
end

