-- ==== Sys2Proof/Machine/Keystream.lean ====
section
/-! DEFINITION. `XORKS`, the keystream applier (spec/43_keystream.md). -/

namespace Sys2Proof.Machine

/-- R120, R121: the loop over chunks: one block per chunk, combined with the chunk's bytes and
handed over before the next block is generated. `src` is what remains of `SRC`. -/
def State.applyChunks : Nat → List Byte → State → State
  | 0, _, s       => s
  | k + 1, src, s =>
    State.applyChunks k (src.drop params.blockLen)
      (s.genBlock.deliver (xorBytes (src.take params.blockLen) s.genBlock.blockBytes))

/-- R120: `XORKS` on a keyed unit whose host has offered `SRC` and takes `DST` and the response. -/
def State.xorksNow (len : Nat) (s : State) : State :=
  ((s.applyChunks (chunkCount len) (memRead s.port.din 0 len)).consume len).answer .ok

/-- `XORKS` (R120, R134, R124): the key check is made on the command, not per chunk. -/
def execXorks (len : Nat) (s : State) : Host.Outcome State Fault Refusal :=
  .next <|
    if s.keyed then
      if s.served len len then s.xorksNow len else s.accept (.chunk 0 len)
    else s.fail .notKeyed len

end Sys2Proof.Machine
end

