-- ==== Sys2Proof/Machine/Round.lean ====
section
/-! DEFINITION. The micro-operations of the round unit (spec/41_round.md). -/

namespace Sys2Proof.Machine

/-- `RND.E` (R91, R105): an even round of `ms`, whatever the sequencer's state (log 9). -/
def execRndE (s : State) : Host.Outcome State Fault Refusal := .next (s.roundStep .even)

/-- `RND.O` (R92, R105): an odd round of `ms`, whatever the sequencer's state (log 9). -/
def execRndO (s : State) : Host.Outcome State Fault Refusal := .next (s.roundStep .odd)

end Sys2Proof.Machine
end

