-- ==== Sys2Proof/Machine/Dispatch.lean ====
section
/-! DEFINITION. One arm per instruction. -/

namespace Sys2Proof.Machine

def exec (i : Instr) (s : State) : Host.Outcome State Fault Refusal :=
  match i with
  | .init klen nlen => Sys2Proof.Machine.execInit klen nlen s
  | .reset => Sys2Proof.Machine.execReset s
  | .genblock => Sys2Proof.Machine.execGenblock s
  | .xorks len => Sys2Proof.Machine.execXorks len s
  | .rndE => Sys2Proof.Machine.execRndE s
  | .rndO => Sys2Proof.Machine.execRndO s

end Sys2Proof.Machine
end

