-- ==== Sys2Proof/WellFormed.lean ====
section
/-! DEFINITION. Which instruction terms the encoding can express. -/

namespace Sys2Proof

/-- The lengths fit their fields: `klen` and `nlen` 8 bits each (R62), `len` 28 bits (R63). -/
def Instr.wellFormed : Instr → Bool
  | .init klen nlen => decide (klen < 2 ^ 8) && decide (nlen < 2 ^ 8)
  | .reset          => true
  | .genblock       => true
  | .xorks len      => decide (len < 2 ^ 28)
  | .rndE           => true
  | .rndO           => true

end Sys2Proof
end

