-- ==== Sys2Proof/Decode.lean ====
section
/-! DEFINITION. Decoding of the command word and of the round parity, and the encoder
(spec/30_encoding.md sections 2, 4 and 5). -/

namespace Sys2Proof

/-- Why a command word is illegal (R65). -/
inductive DecodeError where
  /-- `op` is `0x0` or `0x5` to `0xF`. -/
  | undefinedOp (op : Nat)
  /-- A reserved bit of an `INIT`, `RESET` or `GENBLOCK` word is 1. -/
  | reservedBits (op : Nat)
deriving DecidableEq, Repr

/-- How an instruction reaches the unit: a host command as one 32-bit word on the command
channel (R61), a micro-operation as the parity bit `par = rnd[0]` (R68). -/
inductive Encoding where
  | word (w : BitVec 32)
  | parity (par : BitVec 1)
deriving DecidableEq, Repr

/-- R12: the slice `w[lo + n - 1 : lo]` as an unsigned number. -/
def wordField (w : BitVec 32) (lo n : Nat) : Nat := (w.extractLsb' lo n).toNat

/-- R61, R65: the command a 32-bit command word stands for. -/
def decodeWord (w : BitVec 32) : Except DecodeError Instr :=
  if wordField w 28 4 = 1 then
    if wordField w 16 12 = 0 then .ok (.init (wordField w 8 8) (wordField w 0 8))
    else .error (.reservedBits 1)
  else if wordField w 28 4 = 2 then
    if wordField w 0 28 = 0 then .ok .reset else .error (.reservedBits 2)
  else if wordField w 28 4 = 3 then
    if wordField w 0 28 = 0 then .ok .genblock else .error (.reservedBits 3)
  else if wordField w 28 4 = 4 then .ok (.xorks (wordField w 0 28))
  else .error (.undefinedOp (wordField w 28 4))

/-- R68: the micro-operation that a parity bit selects. -/
def decodeParity (par : BitVec 1) : Instr := if par = 0#1 then .rndE else .rndO

/-- Decoding of either form. -/
def decode : Encoding → Except DecodeError Instr
  | .word w     => decodeWord w
  | .parity par => .ok (decodeParity par)

/-- R61, R62, R63, R68: the encoding of an instruction, the most significant field first. -/
def encode : Instr → Encoding
  | .init klen nlen => .word (0x1#4 ++ 0#12 ++ BitVec.ofNat 8 klen ++ BitVec.ofNat 8 nlen)
  | .reset          => .word (0x2#4 ++ 0#28)
  | .genblock       => .word (0x3#4 ++ 0#28)
  | .xorks len      => .word (0x4#4 ++ BitVec.ofNat 28 len)
  | .rndE           => .parity 0#1
  | .rndO           => .parity 1#1

/-- R61: the match and mask of each command's row, in the table's order. -/
def matchMask : List (BitVec 32 × BitVec 32) :=
  [(0x10000000#32, 0xFFFF0000#32), (0x20000000#32, 0xFFFFFFFF#32),
   (0x30000000#32, 0xFFFFFFFF#32), (0x40000000#32, 0xF0000000#32)]

/-- R61: `w` selects a row when `w and mask = match`. -/
def selects (w : BitVec 32) (row : BitVec 32 × BitVec 32) : Bool := w &&& row.2 == row.1

/-- The widest row that is a parity bit and not a command word, counted in whole bytes. -/
def parityRowBits : Nat := 8

/-- The instruction this decoder reads from a row of the opcode table: the one-bit rows are the
parity select, of which only bit 0 exists (R68, log 15); every other row is a command word. -/
def decodeTableWord (nbits w : Nat) : Option Instr :=
  if nbits ≤ parityRowBits then some (decodeParity (BitVec.ofNat 1 w))
  else if w < 2 ^ 32 then (decodeWord (BitVec.ofNat 32 w)).toOption
  else none

end Sys2Proof
end

