-- ==== Sys2Proof/Machine/Sequencer.lean ====
section
/-! DEFINITION. The sequencer (spec/10_state.md R26, R27, R31; spec/42_cipher_fsm.md R100): what the
unit does next, and the micro-steps that continue a command the host has not yet served
(logs 1, 5, 6). -/

namespace Sys2Proof.Machine

/-! ### Micro-steps of a command in progress, outside the rounds -/

/-- R66, R138: discarding the payload of a failed command, one byte a step. -/
def State.progressDiscard (left : Nat) (r : Response) (s : State) : State :=
  match left, s.port.din with
  | 0, _          => s.goOn (.respond r)
  | _ + 1, []     => s
  | n + 1, _ :: _ => (s.consume 1).goOn (.discard n r)

/-- R62, R101: taking the payload of `INIT`, one byte a step, then writing the registers. -/
def State.progressInit (left : Nat) (got : List Byte) (s : State) : State :=
  match left, s.port.din with
  | 0, _          => (s.install got).goOn (.respond .ok)
  | _ + 1, []     => s
  | n + 1, b :: _ => (s.consume 1).goOn (.takeInit n (got ++ [b]))

/-- R120: the loop head of `XORKS`: a block for the chunk at `off`, or the end of the command. -/
def State.progressChunk (off len : Nat) (s : State) : State :=
  if off < len then s.stateLoad else s.goOn (.respond .ok)

/-- R120, R122: taking the bytes of a chunk, one byte a step, then combining them with the block. -/
def State.progressSrc (off len left : Nat) (got : List Byte) (s : State) : State :=
  match left, s.port.din with
  | 0, _          => s.goOn (.emit (xorBytes got s.blockBytes) (some (off + got.length, len)))
  | _ + 1, []     => s
  | n + 1, b :: _ => (s.consume 1).goOn (.takeSrc off len n (got ++ [b]))

/-- R50 (d), R160: handing output bytes over, one byte a step, while the host takes them. -/
def State.progressEmit (bytes : List Byte) (resume : Option (Nat × Nat)) (s : State) : State :=
  match bytes with
  | b :: rest => if s.port.doutReady then (s.deliver [b]).goOn (.emit rest resume) else s
  | []        =>
    match resume with
    | some (off, len) => s.goOn (.chunk off len)
    | none            => s.goOn (.respond .ok)

/-- One micro-step of the command in progress. Where the host keeps the unit waiting, nothing
changes (R160, R163, log 3). -/
def State.progress (t : Task) (s : State) : State :=
  match t with
  | .discard left r             => s.progressDiscard left r
  | .takeInit left got          => s.progressInit left got
  | .genblock                   => s.stateLoad
  | .chunk off len              => s.progressChunk off len
  | .takeSrc off len left got   => s.progressSrc off len left got
  | .emit bytes resume          => s.progressEmit bytes resume
  | .respond r                  => if s.port.rspReady then s.answer r else s

/-! ### Micro-steps of a block generation -/

/-- R103, R120: what remains of a command when its block is ready; `block` is the block's bytes. -/
def Task.afterBlock (block : List Byte) : Task → Task
  | .genblock                 => .emit block none
  | .chunk off len            => .takeSrc off len (chunkLen off len) []
  | .discard left r           => .discard left r
  | .takeInit left got        => .takeInit left got
  | .takeSrc off len left got => .takeSrc off len left got
  | .emit bytes resume        => .emit bytes resume
  | .respond r                => .respond r

/-- R106: the block is finished and the command it was generated for goes on. -/
def State.finishBlock (s : State) : State :=
  { s.finish with task := s.task.map (Task.afterBlock s.blockBytes) }

/-- R27: the round about to run is the last of its block. -/
def State.lastRound (s : State) : Bool := s.rnd.toNat + 1 == params.rounds

/-- R27, R106: what the sequencer does around a micro-operation that took `s` to `t`: after the
last round the block is finished, in the same step (log 6). A host command needs nothing more. -/
def State.settle (i : Instr) (s t : State) : State :=
  match i with
  | .rndE     => if s.lastRound then t.finishBlock else t
  | .rndO     => if s.lastRound then t.finishBlock else t
  | .init _ _ => t
  | .reset    => t
  | .genblock => t
  | .xorks _  => t

/-! ### What the unit does next -/

/-- R135: an illegal command word: no payload, one response. -/
def State.illegal (s : State) : State := s.fail .illegalCommand 0

/-- What a step is about to do: run an instruction, or go to a state of its own accord. -/
inductive Fetched where
  | runs (i : Instr) (s : State)
  | goes (s : State)

/-- R68: the micro-operation of the round about to run. -/
def microOp (rnd : BitVec 5) : Instr := decodeParity (rnd.extractLsb' 0 1)

/-- R60, R61, R65: the unit is idle and takes the next command word, if the host offers one. -/
def State.fetchCommand (s : State) : Fetched :=
  match s.port.cmd with
  | []      => .goes s
  | w :: ws =>
    match decodeWord w with
    | .ok i    => .runs i (s.withCmd ws)
    | .error _ => .goes (s.withCmd ws).illegal

/-- R150, R152: hardware reset wins over everything; R100, R111: then the rounds of a block, then
the rest of a command in progress, and a new command only when the unit is idle (log 24). -/
def State.fetch (s : State) : Fetched :=
  if s.port.rst then .goes s.hardwareReset
  else match s.phase with
    | .gen  => .runs (microOp s.rnd) s
    | .idle =>
      match s.task with
      | some t => .goes (s.progress t)
      | none   => if s.busy then .goes s else s.fetchCommand

/-! ### Placing the next instruction -/

/-- The command word `w` is the next the unit accepts: no reset, no command in progress (log 11). -/
def State.offerNext (w : BitVec 32) (s : State) : State :=
  { s with phase := .idle, busy := false, task := none,
           port := { s.port with rst := false, cmd := w :: s.port.cmd } }

/-- The round of parity `par` is the next to run: no reset, the sequencer in a block (log 11). -/
def State.selectRound (par : BitVec 1) (s : State) : State :=
  { s with phase := .gen, rnd := par.setWidth 5, port := { s.port with rst := false } }

end Sys2Proof.Machine
end

