-- ==== Sys2Proof/Machine/Step.lean ====
section
/-! DEFINITION. One step of the machine (spec/00_scope.md R14, spec/10_state.md R31). -/

namespace Sys2Proof.Machine

/-- One atomic transition: the instruction that `fetch` finds is run by `exec`, and the sequencer
settles around it; what is no instruction (reset, waiting, transfers) `fetch` has already done. -/
def step (s : State) : Host.Outcome State Fault Refusal :=
  match s.fetch with
  | .goes t   => .next t
  | .runs i t =>
    match exec i t with
    | .next u    => .next (State.settle i t u)
    | .fault f   => .fault f
    | .refused r => .refused r

/-- `s` with a row's instruction placed where `step` fetches next: the parity rows in the sequencer,
a command word on the command channel (log 11). -/
def State.withFetchWord (s : State) (nbits w : Nat) : State :=
  if nbits ≤ parityRowBits then s.selectRound (BitVec.ofNat 1 w)
  else s.offerNext (BitVec.ofNat 32 w)

end Sys2Proof.Machine
end

