-- ==== Sys2Proof/Machine/HostPort.lean ====
section
/-! DEFINITION. What the host can do to the unit between steps (spec/70_reset_and_hazards.md R154,
spec/30_encoding.md R60). Nothing here is the unit's own action. -/

namespace Sys2Proof.Machine

/-- R150: the host asserts the reset input. -/
def State.assertRst (s : State) : State := { s with port := { s.port with rst := true } }

/-- R150, R153 (1): the host releases the reset input. -/
def State.releaseRst (s : State) : State := { s with port := { s.port with rst := false } }

/-- R154: the host offers one more command word, behind those it offers already and has not
withdrawn (DESIGN CHOICE, log 25). -/
def State.offerCommand (w : BitVec 32) (s : State) : State :=
  { s with port := { s.port with cmd := s.port.cmd ++ [w] } }

/-- R154: the host offers payload bytes, behind those it offers already and has not withdrawn: bytes
left over from an abandoned command are taken first by the next one (DESIGN CHOICE, log 25). -/
def State.offerPayload (bytes : List Byte) (s : State) : State :=
  { s with port := { s.port with din := s.port.din ++ bytes } }

/-- The host takes back the command words that the unit has not accepted; the spec does not say
whether a host can (DESIGN CHOICE, log 25). -/
def State.withdrawCommands (s : State) : State := { s with port := { s.port with cmd := [] } }

/-- The host takes back the payload bytes that the unit has not consumed; the spec does not say
whether a host can (DESIGN CHOICE, log 25). -/
def State.withdrawPayload (s : State) : State := { s with port := { s.port with din := [] } }

/-- R60, R160: the host takes output bytes (`dout_ready` high), or stalls the unit. -/
def State.setDoutReady (ready : Bool) (s : State) : State :=
  { s with port := { s.port with doutReady := ready } }

/-- R60, R163: the host takes responses (`rsp_ready` high), or stalls the unit. -/
def State.setRspReady (ready : Bool) (s : State) : State :=
  { s with port := { s.port with rspReady := ready } }

end Sys2Proof.Machine
end

