-- ==== Sys2Proof/Machine/Pseudo.lean ====
section
/-! DEFINITION. The line syntax and the pseudo-operations of spec/30_encoding.md R72 and R73: what a
host sends for one line. -/

namespace Sys2Proof.Machine

/-- R61: one command as the host sends it: a command word and its payload. -/
structure HostCommand where
  word    : BitVec 32
  payload : List Byte
deriving DecidableEq, Repr

/-- R72: one line. Both `INIT` forms of R72 carry the same data, the two byte strings. -/
inductive Line where
  | init (key nonce : List Byte)
  | reset
  | genblock
  | xorks (src : List Byte)
deriving DecidableEq, Repr

/-- R72: the instruction of a line, its lengths taken from the digit counts. -/
def Line.instr : Line → Instr
  | .init key nonce => .init key.length nonce.length
  | .reset          => .reset
  | .genblock       => .genblock
  | .xorks src      => .xorks src.length

/-- R62, R63, R64: the payload of a line. -/
def Line.payload : Line → List Byte
  | .init key nonce => key ++ nonce
  | .reset          => []
  | .genblock       => []
  | .xorks src      => src

/-- R61: the command word of an instruction; a micro-operation has none (R68). -/
def commandWord (i : Instr) : Option (BitVec 32) :=
  match encode i with
  | .word w   => some w
  | .parity _ => none

/-- R72: the command of a line, if the encoding can express its lengths. -/
def Line.command (l : Line) : Option HostCommand :=
  if l.instr.wellFormed then (commandWord l.instr).map fun w => ⟨w, l.payload⟩ else none

/-- One hexadecimal digit, capital letters, of a number below 16. -/
def hexDigit (n : Nat) : Char := if n < 10 then Char.ofNat (48 + n) else Char.ofNat (55 + n)

/-- R72: two digits per byte, the most significant first. -/
def hexOfByte (b : Byte) : List Char := [hexDigit (b.toNat / 16), hexDigit (b.toNat % 16)]

/-- R72: a byte sequence in ascending offset. -/
def hexOfBytes (bytes : List Byte) : List Char := bytes.flatMap hexOfByte

/-- R72: the command word as 8 digits followed by the payload bytes. -/
def HostCommand.hex (c : HostCommand) : List Char :=
  hexOfBytes [c.word.extractLsb' 24 8, c.word.extractLsb' 16 8, c.word.extractLsb' 8 8,
              c.word.extractLsb' 0 8] ++ hexOfBytes c.payload

/-- R73: the pseudo-operations; `xorksLong` carries the cut length `n`, a multiple of 64. -/
inductive Pseudo where
  | encrypt (p : List Byte)
  | decrypt (c : List Byte)
  | xorksLong (b : List Byte) (n : Nat)
  | keystream (n : Nat)
deriving DecidableEq, Repr

/-- R73: a buffer cut into pieces of `n` bytes, the last of any length; at most `fuel + 1` pieces. -/
def piecesOf (n : Nat) : Nat → List Byte → List (List Byte)
  | 0, b        => [b]
  | fuel + 1, b => if b.length ≤ n then [b] else b.take n :: piecesOf n fuel (b.drop n)

/-- R73: the expansion of a pseudo-operation; none has an encoding of its own. -/
def Pseudo.expand : Pseudo → List Line
  | .encrypt p     => [.reset, .xorks p]
  | .decrypt c     => [.reset, .xorks c]
  | .xorksLong b n => (piecesOf n b.length b).map .xorks
  | .keystream n   => [.xorks (List.replicate n 0)]

/-- R61, R154: the host offers a command and its payload. -/
def State.submit (c : HostCommand) (s : State) : State :=
  (s.offerCommand c.word).offerPayload c.payload

/-- The host offers the commands of several lines, one after the other. -/
def State.submitLines (ls : List Line) (s : State) : State :=
  (ls.filterMap Line.command).foldl (fun t c => t.submit c) s

end Sys2Proof.Machine
end

