-- ==== Sys2Proof/Machine/Bank.lean ====
section
/-! DEFINITION. Several units side by side (spec/60_exceptions.md R144, spec/10_state.md R35): each is a
`State` of its own, and they share nothing. -/

namespace Sys2Proof.Machine

/-- R144: the units of a platform. -/
abbrev Bank := List State

/-- R35, R144: unit `u` takes one step; every other unit is left as it is. -/
def Bank.stepUnit (u : Nat) (b : Bank) : Host.Outcome Bank Fault Refusal :=
  match b[u]? with
  | none   => .next b
  | some s =>
    match step s with
    | .next t    => .next (b.set u t)
    | .fault f   => .fault f
    | .refused r => .refused r

end Sys2Proof.Machine
end

