-- ==== Sys2Proof/Safety.lean ====
section
/-! DEFINITION. The terms in which claims about the unit are made: its invariant, the formulas of the
spec written out where the model uses tables or loops, and what two states have in common. -/

namespace Sys2Proof.Machine

/-! ### What the unit is doing -/

/-- R111: no reset, no block in progress, no command in progress. -/
structure State.Idle (s : State) : Prop where
  rst   : s.port.rst = false
  phase : s.phase = .idle
  busy  : s.busy = false
  task  : s.task = none

/-- R120, R121: where an `XORKS` goes on lies inside its buffer, at a chunk boundary or at the end. -/
def resumeSound : Option (Nat × Nat) → Bool
  | none            => true
  | some (off, len) => decide (len < 2 ^ 28) && decide (off ≤ len) && (off % 64 == 0 || off == len)

/-- R66, R163: what is left of a command in progress is consistent with the framing of its word. -/
def Task.sound : Task → Bool
  | .discard left r           => decide (left < 2 ^ 28) && r != .ok
  | .takeInit left got        => left + got.length == 48
  | .genblock                 => true
  | .chunk off len            => resumeSound (some (off, len))
  | .takeSrc off len left got =>
    decide (len < 2 ^ 28) && decide (off < len) && off % 64 == 0 && left + got.length == min 64 (len - off)
  | .emit bytes resume        => decide (bytes.length ≤ 64) && resumeSound resume
  | .respond _                => true

/-- R28, R134: the task belongs to a command that only a keyed unit runs. -/
def Task.needsKey : Task → Bool
  | .discard _ _     => false
  | .takeInit _ _    => false
  | .genblock        => true
  | .chunk _ _       => true
  | .takeSrc _ _ _ _ => true
  | .emit _ _        => true
  | .respond _       => false

/-- R100: the task is one for which a block can be in generation. -/
def Task.generates : Task → Bool
  | .discard _ _     => false
  | .takeInit _ _    => false
  | .genblock        => true
  | .chunk off len   => decide (off < len)
  | .takeSrc _ _ _ _ => false
  | .emit _ _        => false
  | .respond _       => false

/-- What every reachable state satisfies. -/
structure State.Inv (s : State) : Prop where
  /-- R29: `busy` says whether a command is in progress. -/
  busy    : s.busy = s.task.isSome
  /-- R27: `rnd` is 0 whenever `phase = IDLE`. -/
  rnd     : s.phase = .idle → s.rnd = 0
  /-- R112, R33: outside a block generation `ms` and `ns` hold the same words. -/
  residue : s.phase = .idle → s.ms = s.ns
  /-- R100: a block is generated only for a `GENBLOCK` or for a chunk of an `XORKS`. -/
  gen     : s.phase = .gen → s.task.any Task.generates = true
  /-- R66: the framing of the command in progress. -/
  sound   : s.task.all Task.sound = true
  /-- R134: no command that needs the key is in progress on an unkeyed unit. -/
  needs   : s.keyed = false → s.task.any Task.needsKey = false
  /-- R33, R134: while nothing has been keyed the registers are those of the hardware reset. -/
  unkeyed : s.keyed = false → s.ctr = 0 ∧ s.key = Vector.replicate 4 0 ∧
    s.nonce = Vector.replicate 2 0 ∧ s.ms = Vector.replicate 8 0

/-- R121: payload bytes of the chunks still to come. -/
def resumeOwed : Option (Nat × Nat) → Nat
  | none            => 0
  | some (off, len) => len - off

/-- R163: payload bytes that the command in progress still has to take. -/
def Task.owed : Task → Nat
  | .discard left _               => left
  | .takeInit left _              => left
  | .genblock                     => 0
  | .chunk off len                => len - off
  | .takeSrc off len left _       => left + (len - off - min 64 (len - off))
  | .emit _ resume                => resumeOwed resume
  | .respond _                    => 0

/-- R60, U14: the host keeps the command in progress waiting: a byte is due that is not offered, an
output byte is not taken, or the response is not taken. -/
def Task.blocked (p : Port) : Task → Bool
  | .discard left _       => decide (0 < left) && p.din.isEmpty
  | .takeInit left _      => decide (0 < left) && p.din.isEmpty
  | .genblock             => false
  | .chunk _ _            => false
  | .takeSrc _ _ left _   => decide (0 < left) && p.din.isEmpty
  | .emit bytes _         => !bytes.isEmpty && !p.doutReady
  | .respond _            => !p.rspReady

/-- R28, R101, R110: this step completes a successful `INIT` with the payload `p`: the last micro-step
of one in progress, or the word 0x10002010 taken by an idle unit whose host has offered the 48 payload
bytes and takes the response. -/
def State.completesInit (s : State) (p : List Byte) : Prop :=
  (s.port.rst = false ∧ s.phase = .idle ∧ s.task = some (.takeInit 0 p)) ∨
    (s.Idle ∧ s.port.cmd.head? = some 0x10002010#32 ∧ 48 ≤ s.port.din.length ∧
      s.port.rspReady = true ∧ p = s.port.din.take 48)

/-! ### The formulas of the spec -/

/-- R91, statement by statement; slot 0 first. -/
def evenRound (s : Words 8) : Words 8 :=
  #v[rotr (s[4] ^^^ s[7]) 57 + s[5], rotr (s[1] ^^^ s[2]) 33 + s[3],
     rotr (s[3] ^^^ s[0]) 27 + s[0], rotr (s[0] ^^^ s[3]) 57 + s[1],
     rotr (s[7] ^^^ s[4]) 27 + s[4], rotr (s[5] ^^^ s[6]) 33 + s[7],
     rotr (s[6] ^^^ s[5]) 40 + s[6], rotr (s[2] ^^^ s[1]) 40 + s[2]]

/-- R92, statement by statement; slot 0 first. -/
def oddRound (s : Words 8) : Words 8 :=
  #v[rotr (s[7] ^^^ s[5]) 56 + s[7], rotr (s[5] ^^^ s[4]) 42 + s[6],
     rotr (s[3] ^^^ s[1]) 56 + s[3], rotr (s[1] ^^^ s[0]) 42 + s[2],
     rotr (s[0] ^^^ s[2]) 5 + s[0], rotr (s[2] ^^^ s[3]) 18 + s[1],
     rotr (s[4] ^^^ s[6]) 5 + s[4], rotr (s[6] ^^^ s[7]) 18 + s[5]]

/-- R104, word by word; slot 0 first. -/
def loadedState (key : Words 4) (nonce : Words 2) (ctr : Word) : Words 8 :=
  #v[0xF0F1F2F3F4F5F6F7, key[0], key[1], key[2], nonce[0], ctr, key[3], nonce[1]]

/-- R94, R105: the working state after rounds 0 to `n - 1`, even rounds and odd rounds alternating. -/
def afterRounds (n : Nat) (s : Words 8) : Words 8 :=
  (List.range n).foldl (fun t r => if r % 2 = 0 then evenRound t else oddRound t) s

/-- R108: `Block(key, nonce, ctr)`. -/
def blockOf (key : Words 4) (nonce : Words 2) (ctr : Word) : Words 8 :=
  afterRounds 32 (loadedState key nonce ctr)

/-- R44: byte `k` of a serialised block, for `k < 64`. -/
def blockByte (blk : Words 8) (k : Fin 64) : Byte :=
  BitVec.ofNat 8 (blk[k.val / 8].toNat / 2 ^ (8 * (7 - k.val % 8)))

/-- R122: byte `k` of the keystream that starts at counter `c0`. -/
def keystreamByte (key : Words 4) (nonce : Words 2) (c0 : Word) (k : Nat) : Byte :=
  blockByte (blockOf key nonce (c0 + BitVec.ofNat 64 (k / 64))) ⟨k % 64, Nat.mod_lt k (by decide)⟩

/-- R122: `n` bytes of the keystream that starts at counter `c0`. -/
def keystream (key : Words 4) (nonce : Words 2) (c0 : Word) (n : Nat) : List Byte :=
  (List.range n).map (keystreamByte key nonce c0)

/-! ### What two states have in common -/

/-- R24: `ms` holds a block that is being generated, or one that a chunk is about to be combined
with; otherwise nothing reads it before it is overwritten. -/
def State.msLive (s : State) : Bool :=
  s.phase == .gen ||
  match s.task with
  | some (.takeSrc _ _ _ _) => true
  | some (.discard _ _)     => false
  | some (.takeInit _ _)    => false
  | some .genblock          => false
  | some (.chunk _ _)       => false
  | some (.emit _ _)        => false
  | some (.respond _)       => false
  | none                    => false

/-- R24, R25, R108: the state without what no later behaviour may depend on: `ns`, `mac`, the model's
own `fresh`, and `ms` unless it is live. -/
def State.known (s : State) : State :=
  { s with ns := Vector.replicate 8 0, mac := Vector.replicate 2 0, fresh := 0,
           ms := if s.msLive then s.ms else Vector.replicate 8 0 }

/-- As many zero bytes. -/
def blankBytes (b : List Byte) : List Byte := List.replicate b.length 0

/-- A task without the values of the bytes it carries; their number stays. -/
def Task.shape : Task → Task
  | .discard left r           => .discard left r
  | .takeInit left got        => .takeInit left (blankBytes got)
  | .genblock                 => .genblock
  | .chunk off len            => .chunk off len
  | .takeSrc off len left got => .takeSrc off len left (blankBytes got)
  | .emit bytes resume        => .emit (blankBytes bytes) resume
  | .respond r                => .respond r

/-- R31, R162: what is left of a state when every data value is blanked: the sequencer, the
counter, the status bits, and how many bytes have passed or are offered. -/
def State.shape (s : State) : State :=
  { s with key := Vector.replicate 4 0, nonce := Vector.replicate 2 0, ms := Vector.replicate 8 0,
           ns := Vector.replicate 8 0, mac := Vector.replicate 2 0, fresh := 0,
           task := s.task.map Task.shape,
           port := { s.port with din := blankBytes s.port.din, dout := blankBytes s.port.dout } }

/-! ### Runs -/

/-- `n` instructions `i`, one after the other, each from where the last one ended. -/
def execTimes (i : Instr) : Nat → State → Host.Outcome State Fault Refusal
  | 0, s     => .next s
  | n + 1, s =>
    match exec i s with
    | .next t    => execTimes i n t
    | .fault f   => .fault f
    | .refused r => .refused r

/-- `n` steps of the machine. -/
def stepTimes : Nat → State → Host.Outcome State Fault Refusal
  | 0, s     => .next s
  | n + 1, s =>
    match step s with
    | .next t    => stepTimes n t
    | .fault f   => .fault f
    | .refused r => .refused r

/-- R60, R154: what can happen while a command is in progress: the host offers payload bytes, stalls
or takes outputs, stalls or takes responses; or the unit makes a step. -/
inductive Move where
  | offer (bytes : List Byte)
  | doutReady (ready : Bool)
  | rspReady (ready : Bool)
  | unitStep
deriving DecidableEq, Repr

/-- The state after a move; a step that gave no next state would leave it as it is. -/
def Move.apply (s : State) : Move → State
  | .offer bytes     => s.offerPayload bytes
  | .doutReady ready => s.setDoutReady ready
  | .rspReady ready  => s.setRspReady ready
  | .unitStep        =>
    match step s with
    | .next t    => t
    | .fault _   => s
    | .refused _ => s

/-- The payload bytes that a move offers. -/
def Move.offered : Move → List Byte
  | .offer bytes => bytes
  | .doutReady _ => []
  | .rspReady _  => []
  | .unitStep    => []

/-- R163: the host takes every output byte and every response from now on. -/
def State.takesAll (s : State) : State := (s.setDoutReady true).setRspReady true

end Sys2Proof.Machine
end

