-- ==== Sys2Proof/Certificates/Slice0/Obligations.lean ====
section
/-! DEFINITION. The statements about the model, for the provers. Each docstring names the rules of
spec/ it rests on. `State`, `step`, `exec` and the operations are those of Sys2Proof.Machine. -/

open Sys2Proof Sys2Proof.Machine

/-! ### Encoding and decoding -/

/-- R61 to R63, R68: decoding the encoding of a well-formed instruction gives it back. -/
def Obligations.DecodeEncodeRoundTrip : Prop :=
  ∀ i : Instr, i.wellFormed = true → decode (encode i) = .ok i

/-- R61 to R64: a command word that decodes is the encoding of what it decodes to, which is
well-formed; so no two words stand for one command. -/
def Obligations.LegalWordIsItsOwnEncoding : Prop :=
  ∀ (w : BitVec 32) (i : Instr), decodeWord w = .ok i → encode i = .word w ∧ i.wellFormed = true

/-- R61, R65: a word is a command exactly when it matches a row of the match and mask table, and no
word matches two rows. -/
def Obligations.LegalWordsAreTheTableRows : Prop :=
  ∀ w : BitVec 32,
    ((∃ i, decodeWord w = .ok i) ↔ ∃ row ∈ matchMask, selects w row = true) ∧
      (matchMask.filter (selects w)).length ≤ 1

/-- R61 to R65, R68: words written out from the tables of the spec. -/
def Obligations.WrittenOutWordsDecode : Prop :=
  decodeWord 0x10002010#32 = .ok (.init 32 16) ∧ decodeWord 0x10001F10#32 = .ok (.init 31 16) ∧
  decodeWord 0x20000000#32 = .ok .reset ∧ decodeWord 0x30000000#32 = .ok .genblock ∧
  decodeWord 0x40000046#32 = .ok (.xorks 70) ∧ decodeWord 0x4FFFFFFF#32 = .ok (.xorks 268435455) ∧
  decodeWord 0x00000000#32 = .error (.undefinedOp 0) ∧
  decodeWord 0x20000001#32 = .error (.reservedBits 2) ∧
  decode (.parity 0#1) = .ok .rndE ∧ decode (.parity 1#1) = .ok .rndO

/-- R68, R94: round `r` is `RND.E` when `r` is even and `RND.O` when `r` is odd. -/
def Obligations.RoundParityFollowsIndex : Prop :=
  ∀ rnd : BitVec 5, microOp rnd = if rnd.toNat % 2 = 0 then .rndE else .rndO

/-- R62, R63, R66, R72: the command a line stands for decodes to the line's instruction, and its payload
is as long as its word announces. -/
def Obligations.LineCommandIsFramed : Prop :=
  ∀ (l : Line) (c : HostCommand), l.command = some c →
    decodeWord c.word = .ok l.instr ∧ c.payload.length = payloadLen l.instr

/-- R73, R127: the pieces of an `XORKS.LONG` are the buffer, in order, and each piece but the last has
the cut length. -/
def Obligations.LongBufferPieces : Prop :=
  ∀ (n : Nat) (b : List Byte), 0 < n →
    (piecesOf n b.length b).flatten = b ∧
    (∀ p ∈ (piecesOf n b.length b).dropLast, p.length = n) ∧
    ∀ p ∈ piecesOf n b.length b, p.length ≤ n

/-! ### The Word Codec and the rotation -/

/-- R10: the formula of `ROTR`, bit `i` of the result is bit `(i + n) mod 64` of `x`, the amounts that
the schedules use, and the rule's two examples. -/
def Obligations.RotrMovesBitsRight : Prop :=
  (∀ (x : Word) (n : Nat), 0 < n → n < 64 →
    (rotr x n).toNat = (x.toNat / 2 ^ n ||| x.toNat * 2 ^ (64 - n)) % 2 ^ 64 ∧
      ∀ i : Nat, i < 64 → (rotr x n).getLsbD i = x.getLsbD ((i + n) % 64)) ∧
  (∀ p : Parity, ∀ r ∈ schedule p, r.rot ∈ [5, 18, 27, 33, 40, 42, 56, 57]) ∧
  rotr 0x0000000000000001 27 = 0x0000002000000000 ∧
  rotr 0xF0F1F2F3F4F5F6F7 57 = 0x78F979FA7AFB7BF8

/-- R80: the positional value of `B2W`. -/
def Obligations.B2wPositionalValue : Prop :=
  ∀ b0 b1 b2 b3 b4 b5 b6 b7 : Byte,
    (b2w [b0, b1, b2, b3, b4, b5, b6, b7]).toNat =
      b0.toNat * 2 ^ 56 + b1.toNat * 2 ^ 48 + b2.toNat * 2 ^ 40 + b3.toNat * 2 ^ 32 +
      b4.toNat * 2 ^ 24 + b5.toNat * 2 ^ 16 + b6.toNat * 2 ^ 8 + b7.toNat

/-- R81: `W2B` has 8 bytes, byte `i` being `(w >> (8 * (7 - i))) mod 256`. -/
def Obligations.W2bByteValue : Prop :=
  ∀ (w : Word), (w2b w).length = 8 ∧
    ∀ i : Nat, i < 8 →
      (w2b w)[i]? = some (BitVec.ofNat 8 (w.toNat / 2 ^ (8 * (7 - i)) % 256))

/-- R82: `B2W` and `W2B` are inverse to each other. -/
def Obligations.WordCodecRoundTrip : Prop :=
  (∀ w : Word, b2w (w2b w) = w) ∧ ∀ b : List Byte, b.length = 8 → w2b (b2w b) = b

/-- R83, R84: word `i` of `BUF2WORDS_n` is `B2W` of bytes `8i` to `8i + 7`; `WORDS2BUF` has `8n` bytes,
of which bytes `8i` to `8i + 7` are `W2B` of word `i`; the two are inverse to each other. -/
def Obligations.BufferCodecRoundTrip : Prop :=
  ∀ n : Nat,
    (∀ (b : List Byte) (i : Fin n), b.length = 8 * n →
      (buf2words n b)[i] = b2w ((b.drop (8 * i.val)).take 8)) ∧
    (∀ v : Words n, (words2buf v).length = 8 * n ∧
      ∀ i : Fin n, ((words2buf v).drop (8 * i.val)).take 8 = w2b v[i]) ∧
    (∀ v : Words n, buf2words n (words2buf v) = v) ∧
    ∀ b : List Byte, b.length = 8 * n → words2buf (buf2words n b) = b

/-- R44: byte `k` of a serialised block; and where byte `j` of `KEYBUF` and of `NONCEBUF` lands, read
from the 48 payload bytes of an `INIT`. -/
def Obligations.MixedWidthView : Prop :=
  (∀ (v : Words 8) (k : Fin 64),
    (words2buf v)[k.val]? = some (BitVec.ofNat 8 (v[k.val / 8].toNat / 2 ^ (8 * (7 - k.val % 8))))) ∧
  (∀ (b : List Byte) (j : Fin 32), b.length = 48 →
    b[j.val]? = some ((keyOf b)[j.val / 8].extractLsb' (8 * (7 - j.val % 8)) 8)) ∧
  (∀ (b : List Byte) (j : Fin 16), b.length = 48 →
    b[32 + j.val]? = some ((nonceOf b)[j.val / 8].extractLsb' (8 * (7 - j.val % 8)) 8))

/-! ### The round unit -/

/-- R91, R105: `RND.E` completes in every state (outside a block generation by the model's choice, log
9); it writes the even round of `ms` to `ns` and `ms`,
adds 1 to `rnd` and writes nothing else. -/
def Obligations.EvenRoundResult : Prop :=
  ∀ s : State, exec .rndE s =
    .next { s with ms := evenRound s.ms, ns := evenRound s.ms, rnd := s.rnd + 1 }

/-- R92, R105: `RND.O` completes in every state (outside a block generation by the model's choice, log
9); it writes the odd round of `ms` to `ns` and `ms`,
adds 1 to `rnd` and writes nothing else. -/
def Obligations.OddRoundResult : Prop :=
  ∀ s : State, exec .rndO s =
    .next { s with ms := oddRound s.ms, ns := oddRound s.ms, rnd := s.rnd + 1 }

/-- R69, R93, R96: in the round of either parity every slot is written by exactly one row of its
schedule, and gets that row's value computed from the old state; and this tabular form is the function
of the two statement lists of R91 and R92. -/
def Obligations.RoundFollowsSchedule : Prop :=
  (∀ (p : Parity) (s : Words 8),
    ((schedule p).map ScheduleRow.out).Perm (List.finRange 8) ∧
      ∀ r ∈ schedule p, (round p s)[r.out] = rotr (s[r.a] ^^^ s[r.b]) r.rot + s[r.c]) ∧
  ∀ s : Words 8, round .even s = evenRound s ∧ round .odd s = oddRound s

/-- R97: within one round slots 0 to 3 of the input influence only the four outputs of rows 0 to 3,
and slots 4 to 7 only the other four. -/
def Obligations.RoundHalvesStayApart : Prop :=
  ∀ s t : Words 8,
    ((s[0] = t[0] ∧ s[1] = t[1] ∧ s[2] = t[2] ∧ s[3] = t[3]) →
      ((round .even s)[1] = (round .even t)[1] ∧ (round .even s)[2] = (round .even t)[2] ∧
       (round .even s)[3] = (round .even t)[3] ∧ (round .even s)[7] = (round .even t)[7] ∧
       (round .odd s)[4] = (round .odd t)[4] ∧ (round .odd s)[3] = (round .odd t)[3] ∧
       (round .odd s)[2] = (round .odd t)[2] ∧ (round .odd s)[5] = (round .odd t)[5])) ∧
    ((s[4] = t[4] ∧ s[5] = t[5] ∧ s[6] = t[6] ∧ s[7] = t[7]) →
      ((round .even s)[5] = (round .even t)[5] ∧ (round .even s)[4] = (round .even t)[4] ∧
       (round .even s)[0] = (round .even t)[0] ∧ (round .even s)[6] = (round .even t)[6] ∧
       (round .odd s)[6] = (round .odd t)[6] ∧ (round .odd s)[1] = (round .odd t)[1] ∧
       (round .odd s)[0] = (round .odd t)[0] ∧ (round .odd s)[7] = (round .odd t)[7]))

/-- R104, R34 (c): the state load puts every word into its slot, starts the sequencer at round 0 and
writes nothing else; and different counters give initial states that differ. -/
def Obligations.StateLoadPlacesEveryWord : Prop :=
  (∀ s : State, s.stateLoad =
    { s with phase := .gen, rnd := 0, ms := loadedState s.key s.nonce s.ctr }) ∧
  ∀ (key : Words 4) (nonce : Words 2) (c d : Word),
    initialState key nonce c = initialState key nonce d → c = d

/-! ### Commands that complete -/

/-- R101, R62, R83: a served `INIT` with lengths 32 and 16 writes the key and nonce words of its
payload, clears `ctr`, sets `keyed`, answers `OK` and writes nothing else. -/
def Obligations.InitInstallsKeyAndNonce : Prop :=
  ∀ s : State, 48 ≤ s.port.din.length → s.port.rspReady = true →
    exec (.init 32 16) s = .next { s with
      key   := Vector.ofFn fun i : Fin 4 => b2w ((s.port.din.drop (8 * i.val)).take 8)
      nonce := Vector.ofFn fun i : Fin 2 => b2w ((s.port.din.drop (32 + 8 * i.val)).take 8)
      ctr := 0, keyed := true, busy := false, task := none
      port := { s.port with din := s.port.din.drop 48, rsp := s.port.rsp ++ [.ok] } }

/-- R102: a served `RESET` clears `ctr`, answers `OK` and writes nothing else, keyed or not. -/
def Obligations.ResetClearsCounterOnly : Prop :=
  ∀ s : State, s.port.rspReady = true →
    exec .reset s = .next { s with
      ctr := 0, busy := false, task := none, port := { s.port with rsp := s.port.rsp ++ [.ok] } }

/-- R103 to R106, R108, R112: on a keyed unit a served `GENBLOCK` hands over the 64 bytes of the
block of its key, nonce and counter, answers `OK`, adds 1 to `ctr`, leaves the block in `ms` and `ns`
with the sequencer idle, and writes nothing else. -/
def Obligations.GenblockResult : Prop :=
  ∀ s : State, s.keyed = true → s.port.doutReady = true → s.port.rspReady = true →
    exec .genblock s = .next { s with
      ctr := s.ctr + 1, ms := blockOf s.key s.nonce s.ctr, ns := blockOf s.key s.nonce s.ctr
      phase := .idle, rnd := 0, busy := false, task := none
      port := { s.port with
        dout := s.port.dout ++ List.ofFn (blockByte (blockOf s.key s.nonce s.ctr))
        rsp := s.port.rsp ++ [.ok] } }

/-- R120 to R122, R128: on a keyed unit a served `XORKS` hands over the exclusive OR, byte by byte, of
its payload with the keystream from its counter, answers `OK`, adds `ceil(len / 64)` to `ctr`, leaves
the last block in `ms` and `ns` when there was one, and writes nothing else. -/
def Obligations.XorksResult : Prop :=
  ∀ (len : Nat) (s : State), s.keyed = true → len ≤ s.port.din.length →
    (len = 0 ∨ s.port.doutReady = true) → s.port.rspReady = true →
    exec (.xorks len) s = .next { s with
      ctr := s.ctr + BitVec.ofNat 64 ((len + 63) / 64)
      ms := if len = 0 then s.ms else blockOf s.key s.nonce (s.ctr + BitVec.ofNat 64 ((len - 1) / 64))
      ns := if len = 0 then s.ns else blockOf s.key s.nonce (s.ctr + BitVec.ofNat 64 ((len - 1) / 64))
      phase := if len = 0 then s.phase else .idle
      rnd := if len = 0 then s.rnd else 0
      busy := false, task := none
      port := { s.port with
        din := s.port.din.drop len
        dout := s.port.dout ++
          List.zipWith (· ^^^ ·) (s.port.din.take len) (keystream s.key s.nonce s.ctr len)
        rsp := s.port.rsp ++ [.ok] } }

/-- R124: `XORKS` of an empty buffer answers `OK` on a keyed unit and `NotKeyed` otherwise, and writes
no register and no byte either way. -/
def Obligations.XorksOfNothing : Prop :=
  ∀ s : State, s.port.rspReady = true →
    exec (.xorks 0) s = .next { s with
      busy := false, task := none
      port := { s.port with rsp := s.port.rsp ++ [if s.keyed then .ok else .notKeyed] } }

/-! ### Commands that answer an error, or wait -/

/-- R132, R134, R138, R66: `INIT` with any other pair of lengths, and `GENBLOCK` and `XORKS` on an
unkeyed unit, discard their payload, answer their error and write no register and no byte. -/
def Obligations.ErrorsChangeNothing : Prop :=
  (∀ (klen nlen : Nat) (s : State), ¬(klen = 32 ∧ nlen = 16) →
    klen + nlen ≤ s.port.din.length → s.port.rspReady = true →
    exec (.init klen nlen) s = .next { s with
      busy := false, task := none
      port := { s.port with
        din := s.port.din.drop (klen + nlen), rsp := s.port.rsp ++ [.lengthError] } }) ∧
  (∀ s : State, s.keyed = false → s.port.rspReady = true →
    exec .genblock s = .next { s with
      busy := false, task := none, port := { s.port with rsp := s.port.rsp ++ [.notKeyed] } }) ∧
  (∀ (len : Nat) (s : State), s.keyed = false →
    len ≤ s.port.din.length → s.port.rspReady = true →
    exec (.xorks len) s = .next { s with
      busy := false, task := none
      port := { s.port with din := s.port.din.drop len, rsp := s.port.rsp ++ [.notKeyed] } })

/-- The model's choice of when a command is accepted without completing (log 1; it rests on 10 R29, 30 R66
and 70 R163): a command whose payload is not all offered, or whose output or response is not taken, is accepted and waits:
`busy` is 1, what remains of the command is to take or discard its payload, to generate its block or
first chunk, or to answer, and nothing else but, for `RESET`, `ctr` has changed. -/
def Obligations.UnservedCommandIsAccepted : Prop :=
  (∀ (klen nlen : Nat) (s : State),
    (s.port.din.length < klen + nlen ∨ s.port.rspReady = false) →
    exec (.init klen nlen) s = .next { s with
      busy := true
      task := some (if klen = 32 ∧ nlen = 16 then .takeInit 48 []
        else .discard (klen + nlen) .lengthError) }) ∧
  (∀ s : State, s.port.rspReady = false →
    exec .reset s = .next { s with ctr := 0, busy := true, task := some (.respond .ok) }) ∧
  (∀ s : State, s.port.rspReady = false →
    exec .genblock s = .next { s with
      busy := true, task := some (if s.keyed then .genblock else .discard 0 .notKeyed) }) ∧
  (∀ (len : Nat) (s : State), (s.port.din.length < len ∨ s.port.rspReady = false) →
    exec (.xorks len) s = .next { s with
      busy := true, task := some (if s.keyed then .chunk 0 len else .discard len .notKeyed) }) ∧
  (∀ s : State, s.keyed = true → s.port.doutReady = false →
    exec .genblock s = .next { s with busy := true, task := some .genblock }) ∧
  (∀ (len : Nat) (s : State), s.keyed = true → 0 < len → s.port.doutReady = false →
    exec (.xorks len) s = .next { s with busy := true, task := some (.chunk 0 len) })

/-! ### What a step does -/

/-- R14, R31, R94, R106: when the unit is idle and the next offered word decodes, a step is `exec` of
that command; while a block is in generation a step is `exec` of the micro-operation that `rnd`
selects, and after round 31 the finish (in the same step: the model's choice, log 6). -/
def Obligations.StepRunsTheDecodedInstruction : Prop :=
  (∀ (s : State) (w : BitVec 32) (ws : List (BitVec 32)) (i : Instr),
    s.Idle → s.port.cmd = w :: ws → decodeWord w = .ok i → step s = exec i (s.withCmd ws)) ∧
  (∀ s t : State, s.port.rst = false → s.phase = .gen → exec (microOp s.rnd) s = .next t →
    step s = .next (if s.rnd = 31 then t.finishBlock else t))

/-- R65, R135, R138: an illegal word costs one response and changes nothing else: no payload byte, no
output byte, no register. Where the host does not take the response, the word is accepted and the unit
is busy until it does, and answers by the second micro-step after that (the model's choice, logs 1 and 5). -/
def Obligations.IllegalWordChangesNothing : Prop :=
  ∀ (s : State) (w : BitVec 32) (ws : List (BitVec 32)),
    s.Idle → s.port.cmd = w :: ws → (∀ row ∈ matchMask, selects w row = false) →
    (s.port.rspReady = true →
      step s = .next { s with
        port := { s.port with cmd := ws, rsp := s.port.rsp ++ [.illegalCommand] } }) ∧
    (s.port.rspReady = false →
      ∃ a, step s = .next a ∧
        a = { s with
          busy := true, task := some (.discard 0 .illegalCommand), port := { s.port with cmd := ws } } ∧
        stepTimes 2 (a.setRspReady true) = .next { s with
          port := { s.port with
            cmd := ws, rspReady := true, rsp := s.port.rsp ++ [.illegalCommand] } })

/-- R33, R150, R152: with `rst` asserted a step puts every register that R33 gives a value at that
value, abandons the command in progress without a response, takes no word and no byte, and leaves
with the host what it was handed; and before and after it the unit accepts no command word and no
payload byte and offers no output byte and no response. -/
def Obligations.HardwareResetWins : Prop :=
  ∀ s : State, s.port.rst = true → ∃ t, step s = .next t ∧
    t.key = #v[0, 0, 0, 0] ∧ t.nonce = #v[0, 0] ∧ t.ctr = 0 ∧
    t.ms = #v[0, 0, 0, 0, 0, 0, 0, 0] ∧ t.ns = #v[0, 0, 0, 0, 0, 0, 0, 0] ∧
    t.phase = .idle ∧ t.rnd = 0 ∧ t.keyed = false ∧ t.busy = false ∧ t.task = none ∧
    t.port = s.port ∧
    s.cmdReady = false ∧ s.dinReady = false ∧ s.doutOffer = none ∧ s.rspOffer = none ∧
    t.cmdReady = false ∧ t.dinReady = false ∧ t.doutOffer = none ∧ t.rspOffer = none

/-- R33: the reset state, register by register; `mac` is left out, as R33 gives it no value. -/
def Obligations.ResetStateValues : Prop :=
  State.reset.key = #v[0, 0, 0, 0] ∧ State.reset.nonce = #v[0, 0] ∧ State.reset.ctr = 0 ∧
  State.reset.ms = #v[0, 0, 0, 0, 0, 0, 0, 0] ∧ State.reset.ns = #v[0, 0, 0, 0, 0, 0, 0, 0] ∧
  State.reset.phase = .idle ∧ State.reset.rnd = 0 ∧
  State.reset.keyed = false ∧ State.reset.busy = false

/-- R67: the response codes; `4` to `7` are never produced. -/
def Obligations.ResponseCodes : Prop :=
  Response.ok.code = 0 ∧ Response.lengthError.code = 1 ∧ Response.notKeyed.code = 2 ∧
  Response.illegalCommand.code = 3 ∧ ∀ r : Response, r.code.toNat < 4

/-- R136, R167: no instruction and no step stops the machine. -/
def Obligations.NothingStopsTheUnit : Prop :=
  (∀ (i : Instr) (s : State), ∃ t, exec i s = .next t) ∧ ∀ s : State, ∃ t, step s = .next t

/-- R160, R163, U14: a command that the host keeps waiting, and a unit that is offered no command,
change nothing (DEDUCED, log 3). -/
def Obligations.WaitingChangesNothing : Prop :=
  (∀ (s : State) (t : Task), s.port.rst = false → s.phase = .idle → s.task = some t →
    t.blocked s.port = true → step s = .next s) ∧
  (∀ s : State, s.Idle → s.port.cmd = [] → step s = .next s)

/-- R31, R104, R105, R107: the micro-sequence of a `GENBLOCK` in progress: after the load and `n`
rounds the working state is that of `n` rounds, with `ctr` and the interface untouched; the step
of round 31 has also advanced `ctr` (the model's choice, log 6), and the block's bytes are due to the
host. -/
def Obligations.BlockMicroSequence : Prop :=
  ∀ s : State, s.port.rst = false → s.phase = .idle → s.task = some .genblock →
    (∀ n : Nat, n < 32 →
      stepTimes (1 + n) s = .next { s with
        phase := .gen, rnd := BitVec.ofNat 5 n
        ms := afterRounds n (loadedState s.key s.nonce s.ctr)
        ns := if n = 0 then s.ns else afterRounds n (loadedState s.key s.nonce s.ctr) }) ∧
    stepTimes 33 s = .next { s with
      phase := .idle, rnd := 0, ctr := s.ctr + 1
      ms := blockOf s.key s.nonce s.ctr, ns := blockOf s.key s.nonce s.ctr
      task := some (.emit (List.ofFn (blockByte (blockOf s.key s.nonce s.ctr))) none) }

/-! ### Rules about every step -/

/-- R60: a transfer is never undone or repeated: output bytes and responses only grow, payload bytes
and command words are only taken from the front, and the host's inputs are the host's. -/
def Obligations.TransfersAreNeverUndone : Prop :=
  ∀ s t : State, step s = .next t →
    s.port.dout <+: t.port.dout ∧ s.port.rsp <+: t.port.rsp ∧
    t.port.din <:+ s.port.din ∧ t.port.cmd <:+ s.port.cmd ∧
    t.port.rst = s.port.rst ∧ t.port.doutReady = s.port.doutReady ∧
    t.port.rspReady = s.port.rspReady

/-- R111: a command word is accepted only when no reset is asserted and the unit is idle, and then
one word. -/
def Obligations.CommandAcceptedOnlyWhenIdle : Prop :=
  ∀ s t : State, step s = .next t → t.port.cmd ≠ s.port.cmd →
    s.Idle ∧ s.cmdReady = true ∧ ∃ w, s.port.cmd = w :: t.port.cmd

/-- R66: exactly one response per command: words offered, commands in progress and responses
delivered keep their sum, except under hardware reset. -/
def Obligations.OneResponsePerCommand : Prop :=
  ∀ s t : State, s.Inv → s.port.rst = false → step s = .next t →
    t.port.rsp.length + t.busy.toNat + t.port.cmd.length =
      s.port.rsp.length + s.busy.toNat + s.port.cmd.length

/-- R21, R22, R110: `key` and `nonce` change only under hardware reset or in the step that completes an
`INIT` with lengths 32 and 16, to the words of its 48 payload bytes: its last micro-step, or the one
step in which an idle, fully served unit takes the word 0x10002010. -/
def Obligations.KeyWrittenOnlyByInitOrReset : Prop :=
  ∀ s t : State, step s = .next t → (t.key ≠ s.key ∨ t.nonce ≠ s.nonce) →
    s.port.rst = true ∨
      ∃ p, s.completesInit p ∧ t.key = keyOf p ∧ t.nonce = nonceOf p ∧ (s.Inv → p.length = 48)

/-- R28: `keyed` is set only in the step that completes a successful `INIT` (its last micro-step, or the
one step in which an idle, fully served unit takes the word 0x10002010) and cleared only by hardware
reset. -/
def Obligations.KeyedSetByInitClearedByReset : Prop :=
  ∀ s t : State, step s = .next t →
    (s.keyed = true → t.keyed = false → s.port.rst = true) ∧
    (s.keyed = false → t.keyed = true → ∃ p, s.completesInit p)

/-- R23, R109: without hardware reset `ctr` is kept, or cleared in the step that completes an `INIT` or
in which an idle unit takes a `RESET`, or advanced by one in the step that finishes a block: that of
round 31 (the finish in the same step is the model's choice, log 6), or the one step in which an idle,
keyed, served unit takes a `GENBLOCK`; or advanced by one per chunk in the one step in which such a
unit takes an `XORKS` (which commands are one step is the model's choice, log 1). -/
def Obligations.CounterLifecycle : Prop :=
  ∀ s t : State, s.port.rst = false → step s = .next t →
    t.ctr = s.ctr ∨
    (t.ctr = 0 ∧ ((∃ p, s.completesInit p) ∨
      (s.Idle ∧ s.port.cmd.head? = some 0x20000000#32))) ∨
    (t.ctr = s.ctr + 1 ∧ ((s.phase = .gen ∧ s.rnd = 31) ∨
      (s.Idle ∧ s.keyed = true ∧ s.port.doutReady = true ∧ s.port.rspReady = true ∧
        s.port.cmd.head? = some 0x30000000#32))) ∨
    (∃ len : Nat, len < 2 ^ 28 ∧ s.Idle ∧ s.keyed = true ∧ len ≤ s.port.din.length ∧
      (len = 0 ∨ s.port.doutReady = true) ∧ s.port.rspReady = true ∧
      s.port.cmd.head? = some (0x4#4 ++ BitVec.ofNat 28 len) ∧
      t.ctr = s.ctr + BitVec.ofNat 64 ((len + 63) / 64))

/-- R25: no step but one under hardware reset writes `mac`. -/
def Obligations.DeadStateIsNeverWritten : Prop :=
  ∀ s t : State, s.port.rst = false → step s = .next t → t.mac = s.mac

/-- R26, R27, R100, R104: without hardware reset the sequencer leaves `IDLE` only at a state load and
leaves `GEN` exactly after the round with `rnd = 31`; in `GEN` every step is one round (log 6). -/
def Obligations.SequencerTransitions : Prop :=
  ∀ s t : State, s.port.rst = false → step s = .next t →
    (s.phase = .idle → t.phase = .gen →
      t.rnd = 0 ∧ t.ms = loadedState s.key s.nonce s.ctr ∧ t.ctr = s.ctr ∧ t.task = s.task ∧
      (s.task = some .genblock ∨ ∃ off len, off < len ∧ s.task = some (.chunk off len))) ∧
    (s.phase = .gen →
      (t.phase = .idle ↔ s.rnd = 31) ∧ t.rnd = s.rnd + 1 ∧
      t.ms = (if s.rnd.toNat % 2 = 0 then evenRound s.ms else oddRound s.ms) ∧ t.port = s.port)

/-- R134, U1: an unkeyed unit never hands over an output byte. -/
def Obligations.UnkeyedUnitIsSilent : Prop :=
  ∀ s t : State, s.Inv → s.keyed = false → step s = .next t → t.port.dout = s.port.dout

/-! ### Properties of keystream -/

/-- R109, R108: after `n` `GENBLOCK`s from counter 0 the counter is `n` (modulo 2^64) and the output
is the first `64 n` bytes of the keystream. -/
def Obligations.CounterCountsBlocks : Prop :=
  ∀ (n : Nat) (s : State), s.keyed = true → s.ctr = 0 →
    s.port.doutReady = true → s.port.rspReady = true →
    ∃ t, execTimes .genblock n s = .next t ∧ t.ctr = BitVec.ofNat 64 n ∧
      t.port.dout = s.port.dout ++ keystream s.key s.nonce 0 (64 * n)

/-- R103: `GENBLOCK` ends in the very state that `XORKS` of 64 zero bytes ends in. -/
def Obligations.GenblockIsXorksOfZeros : Prop :=
  ∀ s : State, s.keyed = true → s.port.doutReady = true → s.port.rspReady = true →
    exec .genblock s = exec (.xorks 64)
      { s with port := { s.port with din := List.replicate 64 0 ++ s.port.din } }

/-- R125, R102: `RESET`, `XORKS P`, `RESET` and `XORKS` of the output yield `P`. -/
def Obligations.EncryptThenDecrypt : Prop :=
  ∀ (s : State) (P : List Byte), s.keyed = true → s.port.din = P →
    s.port.doutReady = true → s.port.rspReady = true →
    ∃ a b c d C, exec .reset s = .next a ∧ exec (.xorks P.length) a = .next b ∧
      b.port.dout = s.port.dout ++ C ∧ C.length = P.length ∧
      exec .reset b = .next c ∧ exec (.xorks P.length) (c.offerPayload C) = .next d ∧
      d.port.dout = b.port.dout ++ P

/-- R126: what an `XORKS` hands over for the first `k` bytes of a buffer does not depend on what
follows them, nor on how much follows. -/
def Obligations.OutputOfAPrefixIsAPrefix : Prop :=
  ∀ (s : State) (A B B' : List Byte), s.keyed = true →
    s.port.doutReady = true → s.port.rspReady = true →
    ∃ t t' out rest rest',
      exec (.xorks (A ++ B).length) { s with port := { s.port with din := A ++ B } } = .next t ∧
      exec (.xorks (A ++ B').length) { s with port := { s.port with din := A ++ B' } } = .next t' ∧
      out.length = A.length ∧ t.port.dout = s.port.dout ++ out ++ rest ∧
      t'.port.dout = s.port.dout ++ out ++ rest'

/-- R127: a buffer cut at a multiple of 64 into two `XORKS` commands gives the bytes, the counter and
the registers of the one command; only the number of responses differs. -/
def Obligations.SplitAtBlockBoundary : Prop :=
  ∀ (s : State) (n len : Nat), s.keyed = true → n ≤ len → (n % 64 = 0 ∨ n = len) →
    len ≤ s.port.din.length → s.port.doutReady = true → s.port.rspReady = true →
    ∃ t u v, exec (.xorks n) s = .next t ∧ exec (.xorks (len - n)) t = .next u ∧
      exec (.xorks len) s = .next v ∧
      u = { v with port := { v.port with rsp := s.port.rsp ++ [.ok, .ok] } }

/-! ### The whole machine -/

/-- The invariant holds at reset. -/
def Obligations.ResetSatisfiesTheInvariant : Prop := State.reset.Inv

/-- R20 to R29, R100, R112, R134: every step keeps the invariant. -/
def Obligations.StepKeepsTheInvariant : Prop :=
  ∀ s t : State, s.Inv → step s = .next t → t.Inv

/-- R14, R31, R107, R163: a host that takes the response late sees the same: the command is accepted,
and after finitely many micro-steps (their order is log 5) the machine is in the very state that the
one-step execution gives. -/
def Obligations.MicroStepsRefineTheCommand : Prop :=
  ∀ (i : Instr) (s : State), s.Idle → payloadLen i ≤ s.port.din.length →
    s.port.doutReady = true → s.port.rspReady = true →
    ∃ a k, exec i (s.setRspReady false) = .next a ∧ stepTimes k (a.setRspReady true) = exec i s

/-- R163: with a host that has offered the payload still due and takes output and response, every
command in progress ends, with exactly one response, and the unit is idle again. -/
def Obligations.FairHostSeesEveryCommandEnd : Prop :=
  ∀ (s : State) (t : Task), s.Inv → s.port.rst = false → s.task = some t →
    t.owed ≤ s.port.din.length → s.port.doutReady = true → s.port.rspReady = true →
    ∃ k u r, stepTimes k s = .next u ∧ u.Idle ∧ u.port.cmd = s.port.cmd ∧
      u.port.rsp = s.port.rsp ++ [r]

/-- R24, R25, R34 (b), R108: what `ns`, `mac` and a dead `ms` hold never influences any later status,
output byte, response or register but themselves. -/
def Obligations.HiddenStateIsNeverRead : Prop :=
  ∀ s t s' : State, s.known = t.known → step s = .next s' →
    ∃ t', step t = .next t' ∧ s'.known = t'.known

/-- R31, R162: the values of key, nonce, working state and data never influence the sequencer, the
counter, the status bits, the responses, or how many bytes pass. -/
def Obligations.ControlIgnoresData : Prop :=
  ∀ s t s' : State, s.shape = t.shape → step s = .next s' →
    ∃ t', step t = .next t' ∧ s'.shape = t'.shape

/-- R35, R144: a step of one unit leaves every other unit as it is. -/
def Obligations.UnitsShareNothing : Prop :=
  ∀ (b b' : Bank) (u : Nat), Bank.stepUnit u b = .next b' →
    b'.length = b.length ∧ (∀ v, v ≠ u → b'[v]? = b[v]?) ∧
    ∀ s, b[u]? = some s → ∃ t, step s = .next t ∧ b'[u]? = some t

/-! ### The handshakes, and hosts that serve a command piece by piece -/

/-- R60: while a command is in progress a step transfers on each channel what the handshake outputs
say: one payload byte when `dinReady` and one is offered, the offered output byte when the host takes
output, the offered response when the host takes responses, and nothing else. -/
def Obligations.HandshakeOutputsMatchTransfers : Prop :=
  ∀ (s t : State) (k : Task), s.Inv → s.port.rst = false → s.task = some k → step s = .next t →
    t.port.din = (if s.dinReady then s.port.din.drop 1 else s.port.din) ∧
    t.port.dout = s.port.dout ++ (if s.port.doutReady then s.doutOffer.toList else []) ∧
    t.port.rsp.map Response.code =
      s.port.rsp.map Response.code ++ (if s.port.rspReady then s.rspOffer.toList else []) ∧
    t.port.cmd = s.port.cmd

/-- R14, R31, R61, R66, R160, R163: however a host serves a command, the outcome is that of the one-step
execution. The command is taken with any part of its payload offered and any readiness; then the host
offers payload, stalls and takes outputs and responses in any order, with any number of steps of the
unit between these moves; once the whole payload has been offered and the host takes outputs and
responses, the unit reaches the very state of the fully served command (micro-steps: logs 1, 5, 6). -/
def Obligations.AnyHostScheduleGivesTheCommand : Prop :=
  ∀ (i : Instr) (s a : State) (moves : List Move), s.Idle → s.port.cmd = [] → exec i s = .next a →
    payloadLen i ≤ (s.port.din ++ moves.flatMap Move.offered).length →
    ∃ k, stepTimes k (moves.foldl Move.apply a).takesAll =
      exec i (s.offerPayload (moves.flatMap Move.offered)).takesAll
end

