-- ==== Sys2Proof/Laws/Decode.lean ====
section
/-! SUPPORT. Command words as numbers: what a field reads, and what an encoded word is worth. -/

namespace Sys2Proof

/-- A field of a word, by division. -/
theorem wordField_eq (w : BitVec 32) (lo n : Nat) :
    wordField w lo n = w.toNat / 2 ^ lo % 2 ^ n := by
  simp [wordField, BitVec.extractLsb'_toNat, Nat.shiftRight_eq_div_pow]

theorem wordField_lt (w : BitVec 32) (lo n : Nat) : wordField w lo n < 2 ^ n :=
  (w.extractLsb' lo n).isLt

/-- R61: the number an `INIT` word is. -/
theorem init_word_toNat {klen nlen : Nat} (hk : klen < 2 ^ 8) (hn : nlen < 2 ^ 8) :
    (0x1#4 ++ 0#12 ++ BitVec.ofNat 8 klen ++ BitVec.ofNat 8 nlen : BitVec 32).toNat =
      2 ^ 28 + klen * 2 ^ 8 + nlen := by
  simp only [BitVec.toNat_append]
  rw [← Nat.shiftLeft_add_eq_or_of_lt (by simp; omega),
    ← Nat.shiftLeft_add_eq_or_of_lt (by simp; omega), ← Nat.shiftLeft_add_eq_or_of_lt (by simp)]
  simp [Nat.shiftLeft_eq]
  omega

/-- R61: the number an `XORKS` word is. -/
theorem xorks_word_toNat {len : Nat} (h : len < 2 ^ 28) :
    (0x4#4 ++ BitVec.ofNat 28 len : BitVec 32).toNat = 4 * 2 ^ 28 + len := by
  simp only [BitVec.toNat_append]
  rw [← Nat.shiftLeft_add_eq_or_of_lt (by simp; omega)]
  simp [Nat.shiftLeft_eq]
  omega

/-- R68: no host command is a micro-operation. -/
theorem decodeWord_ne_micro {w : BitVec 32} {i : Instr} (h : decodeWord w = .ok i) :
    i ≠ .rndE ∧ i ≠ .rndO := by
  constructor <;> rintro rfl <;> simp only [decodeWord] at h <;> split_ifs at h <;> simp at h

end Sys2Proof
end

