-- ==== Sys2Proof/Laws/State.lean ====
section
/-! SUPPORT. One lemma per field per update of the state, so that no later proof unfolds a record
update. An update that leaves the interface alone has one lemma for all of `port`. -/

namespace Sys2Proof.Machine

/-! ### `consume` -/

@[simp] theorem State.consume_key (n : Nat) (s : State) : (s.consume n).key = s.key := rfl
@[simp] theorem State.consume_nonce (n : Nat) (s : State) : (s.consume n).nonce = s.nonce := rfl
@[simp] theorem State.consume_ctr (n : Nat) (s : State) : (s.consume n).ctr = s.ctr := rfl
@[simp] theorem State.consume_ms (n : Nat) (s : State) : (s.consume n).ms = s.ms := rfl
@[simp] theorem State.consume_ns (n : Nat) (s : State) : (s.consume n).ns = s.ns := rfl
@[simp] theorem State.consume_mac (n : Nat) (s : State) : (s.consume n).mac = s.mac := rfl
@[simp] theorem State.consume_phase (n : Nat) (s : State) : (s.consume n).phase = s.phase := rfl
@[simp] theorem State.consume_rnd (n : Nat) (s : State) : (s.consume n).rnd = s.rnd := rfl
@[simp] theorem State.consume_keyed (n : Nat) (s : State) : (s.consume n).keyed = s.keyed := rfl
@[simp] theorem State.consume_busy (n : Nat) (s : State) : (s.consume n).busy = s.busy := rfl
@[simp] theorem State.consume_task (n : Nat) (s : State) : (s.consume n).task = s.task := rfl
@[simp] theorem State.consume_fresh (n : Nat) (s : State) : (s.consume n).fresh = s.fresh := rfl
@[simp] theorem State.consume_rst (n : Nat) (s : State) : (s.consume n).port.rst = s.port.rst := rfl
@[simp] theorem State.consume_cmd (n : Nat) (s : State) : (s.consume n).port.cmd = s.port.cmd := rfl
@[simp] theorem State.consume_din (n : Nat) (s : State) : (s.consume n).port.din = s.port.din.drop n := rfl
@[simp] theorem State.consume_doutReady (n : Nat) (s : State) : (s.consume n).port.doutReady = s.port.doutReady := rfl
@[simp] theorem State.consume_rspReady (n : Nat) (s : State) : (s.consume n).port.rspReady = s.port.rspReady := rfl
@[simp] theorem State.consume_dout (n : Nat) (s : State) : (s.consume n).port.dout = s.port.dout := rfl
@[simp] theorem State.consume_rsp (n : Nat) (s : State) : (s.consume n).port.rsp = s.port.rsp := rfl

/-! ### `deliver` -/

@[simp] theorem State.deliver_key (bytes : List Byte) (s : State) : (s.deliver bytes).key = s.key := rfl
@[simp] theorem State.deliver_nonce (bytes : List Byte) (s : State) : (s.deliver bytes).nonce = s.nonce := rfl
@[simp] theorem State.deliver_ctr (bytes : List Byte) (s : State) : (s.deliver bytes).ctr = s.ctr := rfl
@[simp] theorem State.deliver_ms (bytes : List Byte) (s : State) : (s.deliver bytes).ms = s.ms := rfl
@[simp] theorem State.deliver_ns (bytes : List Byte) (s : State) : (s.deliver bytes).ns = s.ns := rfl
@[simp] theorem State.deliver_mac (bytes : List Byte) (s : State) : (s.deliver bytes).mac = s.mac := rfl
@[simp] theorem State.deliver_phase (bytes : List Byte) (s : State) : (s.deliver bytes).phase = s.phase := rfl
@[simp] theorem State.deliver_rnd (bytes : List Byte) (s : State) : (s.deliver bytes).rnd = s.rnd := rfl
@[simp] theorem State.deliver_keyed (bytes : List Byte) (s : State) : (s.deliver bytes).keyed = s.keyed := rfl
@[simp] theorem State.deliver_busy (bytes : List Byte) (s : State) : (s.deliver bytes).busy = s.busy := rfl
@[simp] theorem State.deliver_task (bytes : List Byte) (s : State) : (s.deliver bytes).task = s.task := rfl
@[simp] theorem State.deliver_fresh (bytes : List Byte) (s : State) : (s.deliver bytes).fresh = s.fresh := rfl
@[simp] theorem State.deliver_rst (bytes : List Byte) (s : State) : (s.deliver bytes).port.rst = s.port.rst := rfl
@[simp] theorem State.deliver_cmd (bytes : List Byte) (s : State) : (s.deliver bytes).port.cmd = s.port.cmd := rfl
@[simp] theorem State.deliver_din (bytes : List Byte) (s : State) : (s.deliver bytes).port.din = s.port.din := rfl
@[simp] theorem State.deliver_doutReady (bytes : List Byte) (s : State) : (s.deliver bytes).port.doutReady = s.port.doutReady := rfl
@[simp] theorem State.deliver_rspReady (bytes : List Byte) (s : State) : (s.deliver bytes).port.rspReady = s.port.rspReady := rfl
@[simp] theorem State.deliver_dout (bytes : List Byte) (s : State) : (s.deliver bytes).port.dout = s.port.dout ++ bytes := rfl
@[simp] theorem State.deliver_rsp (bytes : List Byte) (s : State) : (s.deliver bytes).port.rsp = s.port.rsp := rfl

/-! ### `answer` -/

@[simp] theorem State.answer_key (r : Response) (s : State) : (s.answer r).key = s.key := rfl
@[simp] theorem State.answer_nonce (r : Response) (s : State) : (s.answer r).nonce = s.nonce := rfl
@[simp] theorem State.answer_ctr (r : Response) (s : State) : (s.answer r).ctr = s.ctr := rfl
@[simp] theorem State.answer_ms (r : Response) (s : State) : (s.answer r).ms = s.ms := rfl
@[simp] theorem State.answer_ns (r : Response) (s : State) : (s.answer r).ns = s.ns := rfl
@[simp] theorem State.answer_mac (r : Response) (s : State) : (s.answer r).mac = s.mac := rfl
@[simp] theorem State.answer_phase (r : Response) (s : State) : (s.answer r).phase = s.phase := rfl
@[simp] theorem State.answer_rnd (r : Response) (s : State) : (s.answer r).rnd = s.rnd := rfl
@[simp] theorem State.answer_keyed (r : Response) (s : State) : (s.answer r).keyed = s.keyed := rfl
@[simp] theorem State.answer_busy (r : Response) (s : State) : (s.answer r).busy = false := rfl
@[simp] theorem State.answer_task (r : Response) (s : State) : (s.answer r).task = none := rfl
@[simp] theorem State.answer_fresh (r : Response) (s : State) : (s.answer r).fresh = s.fresh := rfl
@[simp] theorem State.answer_rst (r : Response) (s : State) : (s.answer r).port.rst = s.port.rst := rfl
@[simp] theorem State.answer_cmd (r : Response) (s : State) : (s.answer r).port.cmd = s.port.cmd := rfl
@[simp] theorem State.answer_din (r : Response) (s : State) : (s.answer r).port.din = s.port.din := rfl
@[simp] theorem State.answer_doutReady (r : Response) (s : State) : (s.answer r).port.doutReady = s.port.doutReady := rfl
@[simp] theorem State.answer_rspReady (r : Response) (s : State) : (s.answer r).port.rspReady = s.port.rspReady := rfl
@[simp] theorem State.answer_dout (r : Response) (s : State) : (s.answer r).port.dout = s.port.dout := rfl
@[simp] theorem State.answer_rsp (r : Response) (s : State) : (s.answer r).port.rsp = s.port.rsp ++ [r] := rfl

/-! ### `accept` -/

@[simp] theorem State.accept_key (t : Task) (s : State) : (s.accept t).key = s.key := rfl
@[simp] theorem State.accept_nonce (t : Task) (s : State) : (s.accept t).nonce = s.nonce := rfl
@[simp] theorem State.accept_ctr (t : Task) (s : State) : (s.accept t).ctr = s.ctr := rfl
@[simp] theorem State.accept_ms (t : Task) (s : State) : (s.accept t).ms = s.ms := rfl
@[simp] theorem State.accept_ns (t : Task) (s : State) : (s.accept t).ns = s.ns := rfl
@[simp] theorem State.accept_mac (t : Task) (s : State) : (s.accept t).mac = s.mac := rfl
@[simp] theorem State.accept_phase (t : Task) (s : State) : (s.accept t).phase = s.phase := rfl
@[simp] theorem State.accept_rnd (t : Task) (s : State) : (s.accept t).rnd = s.rnd := rfl
@[simp] theorem State.accept_keyed (t : Task) (s : State) : (s.accept t).keyed = s.keyed := rfl
@[simp] theorem State.accept_busy (t : Task) (s : State) : (s.accept t).busy = true := rfl
@[simp] theorem State.accept_task (t : Task) (s : State) : (s.accept t).task = some t := rfl
@[simp] theorem State.accept_fresh (t : Task) (s : State) : (s.accept t).fresh = s.fresh := rfl
@[simp] theorem State.accept_port (t : Task) (s : State) : (s.accept t).port = s.port := rfl

/-! ### `goOn` -/

@[simp] theorem State.goOn_key (t : Task) (s : State) : (s.goOn t).key = s.key := rfl
@[simp] theorem State.goOn_nonce (t : Task) (s : State) : (s.goOn t).nonce = s.nonce := rfl
@[simp] theorem State.goOn_ctr (t : Task) (s : State) : (s.goOn t).ctr = s.ctr := rfl
@[simp] theorem State.goOn_ms (t : Task) (s : State) : (s.goOn t).ms = s.ms := rfl
@[simp] theorem State.goOn_ns (t : Task) (s : State) : (s.goOn t).ns = s.ns := rfl
@[simp] theorem State.goOn_mac (t : Task) (s : State) : (s.goOn t).mac = s.mac := rfl
@[simp] theorem State.goOn_phase (t : Task) (s : State) : (s.goOn t).phase = s.phase := rfl
@[simp] theorem State.goOn_rnd (t : Task) (s : State) : (s.goOn t).rnd = s.rnd := rfl
@[simp] theorem State.goOn_keyed (t : Task) (s : State) : (s.goOn t).keyed = s.keyed := rfl
@[simp] theorem State.goOn_busy (t : Task) (s : State) : (s.goOn t).busy = s.busy := rfl
@[simp] theorem State.goOn_task (t : Task) (s : State) : (s.goOn t).task = some t := rfl
@[simp] theorem State.goOn_fresh (t : Task) (s : State) : (s.goOn t).fresh = s.fresh := rfl
@[simp] theorem State.goOn_port (t : Task) (s : State) : (s.goOn t).port = s.port := rfl

/-! ### `withCmd` -/

@[simp] theorem State.withCmd_key (ws : List (BitVec 32)) (s : State) : (s.withCmd ws).key = s.key := rfl
@[simp] theorem State.withCmd_nonce (ws : List (BitVec 32)) (s : State) : (s.withCmd ws).nonce = s.nonce := rfl
@[simp] theorem State.withCmd_ctr (ws : List (BitVec 32)) (s : State) : (s.withCmd ws).ctr = s.ctr := rfl
@[simp] theorem State.withCmd_ms (ws : List (BitVec 32)) (s : State) : (s.withCmd ws).ms = s.ms := rfl
@[simp] theorem State.withCmd_ns (ws : List (BitVec 32)) (s : State) : (s.withCmd ws).ns = s.ns := rfl
@[simp] theorem State.withCmd_mac (ws : List (BitVec 32)) (s : State) : (s.withCmd ws).mac = s.mac := rfl
@[simp] theorem State.withCmd_phase (ws : List (BitVec 32)) (s : State) : (s.withCmd ws).phase = s.phase := rfl
@[simp] theorem State.withCmd_rnd (ws : List (BitVec 32)) (s : State) : (s.withCmd ws).rnd = s.rnd := rfl
@[simp] theorem State.withCmd_keyed (ws : List (BitVec 32)) (s : State) : (s.withCmd ws).keyed = s.keyed := rfl
@[simp] theorem State.withCmd_busy (ws : List (BitVec 32)) (s : State) : (s.withCmd ws).busy = s.busy := rfl
@[simp] theorem State.withCmd_task (ws : List (BitVec 32)) (s : State) : (s.withCmd ws).task = s.task := rfl
@[simp] theorem State.withCmd_fresh (ws : List (BitVec 32)) (s : State) : (s.withCmd ws).fresh = s.fresh := rfl
@[simp] theorem State.withCmd_rst (ws : List (BitVec 32)) (s : State) : (s.withCmd ws).port.rst = s.port.rst := rfl
@[simp] theorem State.withCmd_cmd (ws : List (BitVec 32)) (s : State) : (s.withCmd ws).port.cmd = ws := rfl
@[simp] theorem State.withCmd_din (ws : List (BitVec 32)) (s : State) : (s.withCmd ws).port.din = s.port.din := rfl
@[simp] theorem State.withCmd_doutReady (ws : List (BitVec 32)) (s : State) : (s.withCmd ws).port.doutReady = s.port.doutReady := rfl
@[simp] theorem State.withCmd_rspReady (ws : List (BitVec 32)) (s : State) : (s.withCmd ws).port.rspReady = s.port.rspReady := rfl
@[simp] theorem State.withCmd_dout (ws : List (BitVec 32)) (s : State) : (s.withCmd ws).port.dout = s.port.dout := rfl
@[simp] theorem State.withCmd_rsp (ws : List (BitVec 32)) (s : State) : (s.withCmd ws).port.rsp = s.port.rsp := rfl

/-! ### `roundStep` -/

@[simp] theorem State.roundStep_key (p : Parity) (s : State) : (s.roundStep p).key = s.key := rfl
@[simp] theorem State.roundStep_nonce (p : Parity) (s : State) : (s.roundStep p).nonce = s.nonce := rfl
@[simp] theorem State.roundStep_ctr (p : Parity) (s : State) : (s.roundStep p).ctr = s.ctr := rfl
@[simp] theorem State.roundStep_ms (p : Parity) (s : State) : (s.roundStep p).ms = round p s.ms := rfl
@[simp] theorem State.roundStep_ns (p : Parity) (s : State) : (s.roundStep p).ns = round p s.ms := rfl
@[simp] theorem State.roundStep_mac (p : Parity) (s : State) : (s.roundStep p).mac = s.mac := rfl
@[simp] theorem State.roundStep_phase (p : Parity) (s : State) : (s.roundStep p).phase = s.phase := rfl
@[simp] theorem State.roundStep_rnd (p : Parity) (s : State) : (s.roundStep p).rnd = s.rnd + 1 := rfl
@[simp] theorem State.roundStep_keyed (p : Parity) (s : State) : (s.roundStep p).keyed = s.keyed := rfl
@[simp] theorem State.roundStep_busy (p : Parity) (s : State) : (s.roundStep p).busy = s.busy := rfl
@[simp] theorem State.roundStep_task (p : Parity) (s : State) : (s.roundStep p).task = s.task := rfl
@[simp] theorem State.roundStep_fresh (p : Parity) (s : State) : (s.roundStep p).fresh = s.fresh := rfl
@[simp] theorem State.roundStep_port (p : Parity) (s : State) : (s.roundStep p).port = s.port := rfl

/-! ### `stateLoad` -/

@[simp] theorem State.stateLoad_key (s : State) : (s.stateLoad).key = s.key := rfl
@[simp] theorem State.stateLoad_nonce (s : State) : (s.stateLoad).nonce = s.nonce := rfl
@[simp] theorem State.stateLoad_ctr (s : State) : (s.stateLoad).ctr = s.ctr := rfl
@[simp] theorem State.stateLoad_ms (s : State) : (s.stateLoad).ms = initialState s.key s.nonce s.ctr := rfl
@[simp] theorem State.stateLoad_ns (s : State) : (s.stateLoad).ns = s.ns := rfl
@[simp] theorem State.stateLoad_mac (s : State) : (s.stateLoad).mac = s.mac := rfl
@[simp] theorem State.stateLoad_phase (s : State) : (s.stateLoad).phase = .gen := rfl
@[simp] theorem State.stateLoad_rnd (s : State) : (s.stateLoad).rnd = 0 := rfl
@[simp] theorem State.stateLoad_keyed (s : State) : (s.stateLoad).keyed = s.keyed := rfl
@[simp] theorem State.stateLoad_busy (s : State) : (s.stateLoad).busy = s.busy := rfl
@[simp] theorem State.stateLoad_task (s : State) : (s.stateLoad).task = s.task := rfl
@[simp] theorem State.stateLoad_fresh (s : State) : (s.stateLoad).fresh = s.fresh := rfl
@[simp] theorem State.stateLoad_port (s : State) : (s.stateLoad).port = s.port := rfl

/-! ### `finish` -/

@[simp] theorem State.finish_key (s : State) : (s.finish).key = s.key := rfl
@[simp] theorem State.finish_nonce (s : State) : (s.finish).nonce = s.nonce := rfl
@[simp] theorem State.finish_ctr (s : State) : (s.finish).ctr = s.ctr + 1 := rfl
@[simp] theorem State.finish_ms (s : State) : (s.finish).ms = s.ms := rfl
@[simp] theorem State.finish_ns (s : State) : (s.finish).ns = s.ns := rfl
@[simp] theorem State.finish_mac (s : State) : (s.finish).mac = s.mac := rfl
@[simp] theorem State.finish_phase (s : State) : (s.finish).phase = .idle := rfl
@[simp] theorem State.finish_rnd (s : State) : (s.finish).rnd = 0 := rfl
@[simp] theorem State.finish_keyed (s : State) : (s.finish).keyed = s.keyed := rfl
@[simp] theorem State.finish_busy (s : State) : (s.finish).busy = s.busy := rfl
@[simp] theorem State.finish_task (s : State) : (s.finish).task = s.task := rfl
@[simp] theorem State.finish_fresh (s : State) : (s.finish).fresh = s.fresh := rfl
@[simp] theorem State.finish_port (s : State) : (s.finish).port = s.port := rfl

/-! ### `finishBlock` -/

@[simp] theorem State.finishBlock_key (s : State) : (s.finishBlock).key = s.key := rfl
@[simp] theorem State.finishBlock_nonce (s : State) : (s.finishBlock).nonce = s.nonce := rfl
@[simp] theorem State.finishBlock_ctr (s : State) : (s.finishBlock).ctr = s.ctr + 1 := rfl
@[simp] theorem State.finishBlock_ms (s : State) : (s.finishBlock).ms = s.ms := rfl
@[simp] theorem State.finishBlock_ns (s : State) : (s.finishBlock).ns = s.ns := rfl
@[simp] theorem State.finishBlock_mac (s : State) : (s.finishBlock).mac = s.mac := rfl
@[simp] theorem State.finishBlock_phase (s : State) : (s.finishBlock).phase = .idle := rfl
@[simp] theorem State.finishBlock_rnd (s : State) : (s.finishBlock).rnd = 0 := rfl
@[simp] theorem State.finishBlock_keyed (s : State) : (s.finishBlock).keyed = s.keyed := rfl
@[simp] theorem State.finishBlock_busy (s : State) : (s.finishBlock).busy = s.busy := rfl
@[simp] theorem State.finishBlock_task (s : State) : (s.finishBlock).task = s.task.map (Task.afterBlock s.blockBytes) := rfl
@[simp] theorem State.finishBlock_fresh (s : State) : (s.finishBlock).fresh = s.fresh := rfl
@[simp] theorem State.finishBlock_port (s : State) : (s.finishBlock).port = s.port := rfl

/-! ### `install` -/

@[simp] theorem State.install_key (payload : List Byte) (s : State) : (s.install payload).key = keyOf payload := rfl
@[simp] theorem State.install_nonce (payload : List Byte) (s : State) : (s.install payload).nonce = nonceOf payload := rfl
@[simp] theorem State.install_ctr (payload : List Byte) (s : State) : (s.install payload).ctr = 0 := rfl
@[simp] theorem State.install_ms (payload : List Byte) (s : State) : (s.install payload).ms = s.ms := rfl
@[simp] theorem State.install_ns (payload : List Byte) (s : State) : (s.install payload).ns = s.ns := rfl
@[simp] theorem State.install_mac (payload : List Byte) (s : State) : (s.install payload).mac = s.mac := rfl
@[simp] theorem State.install_phase (payload : List Byte) (s : State) : (s.install payload).phase = s.phase := rfl
@[simp] theorem State.install_rnd (payload : List Byte) (s : State) : (s.install payload).rnd = s.rnd := rfl
@[simp] theorem State.install_keyed (payload : List Byte) (s : State) : (s.install payload).keyed = true := rfl
@[simp] theorem State.install_busy (payload : List Byte) (s : State) : (s.install payload).busy = s.busy := rfl
@[simp] theorem State.install_task (payload : List Byte) (s : State) : (s.install payload).task = s.task := rfl
@[simp] theorem State.install_fresh (payload : List Byte) (s : State) : (s.install payload).fresh = s.fresh := rfl
@[simp] theorem State.install_port (payload : List Byte) (s : State) : (s.install payload).port = s.port := rfl

/-! ### `clearCtr` -/

@[simp] theorem State.clearCtr_key (s : State) : (s.clearCtr).key = s.key := rfl
@[simp] theorem State.clearCtr_nonce (s : State) : (s.clearCtr).nonce = s.nonce := rfl
@[simp] theorem State.clearCtr_ctr (s : State) : (s.clearCtr).ctr = 0 := rfl
@[simp] theorem State.clearCtr_ms (s : State) : (s.clearCtr).ms = s.ms := rfl
@[simp] theorem State.clearCtr_ns (s : State) : (s.clearCtr).ns = s.ns := rfl
@[simp] theorem State.clearCtr_mac (s : State) : (s.clearCtr).mac = s.mac := rfl
@[simp] theorem State.clearCtr_phase (s : State) : (s.clearCtr).phase = s.phase := rfl
@[simp] theorem State.clearCtr_rnd (s : State) : (s.clearCtr).rnd = s.rnd := rfl
@[simp] theorem State.clearCtr_keyed (s : State) : (s.clearCtr).keyed = s.keyed := rfl
@[simp] theorem State.clearCtr_busy (s : State) : (s.clearCtr).busy = s.busy := rfl
@[simp] theorem State.clearCtr_task (s : State) : (s.clearCtr).task = s.task := rfl
@[simp] theorem State.clearCtr_fresh (s : State) : (s.clearCtr).fresh = s.fresh := rfl
@[simp] theorem State.clearCtr_port (s : State) : (s.clearCtr).port = s.port := rfl

/-! ### `hardwareReset` -/

@[simp] theorem State.hardwareReset_key (s : State) : (s.hardwareReset).key = State.reset.key := rfl
@[simp] theorem State.hardwareReset_nonce (s : State) : (s.hardwareReset).nonce = State.reset.nonce := rfl
@[simp] theorem State.hardwareReset_ctr (s : State) : (s.hardwareReset).ctr = State.reset.ctr := rfl
@[simp] theorem State.hardwareReset_ms (s : State) : (s.hardwareReset).ms = State.reset.ms := rfl
@[simp] theorem State.hardwareReset_ns (s : State) : (s.hardwareReset).ns = State.reset.ns := rfl
@[simp] theorem State.hardwareReset_mac (s : State) : (s.hardwareReset).mac = Config.macAfterReset params.wordBits params.macWords s.fresh := rfl
@[simp] theorem State.hardwareReset_phase (s : State) : (s.hardwareReset).phase = State.reset.phase := rfl
@[simp] theorem State.hardwareReset_rnd (s : State) : (s.hardwareReset).rnd = State.reset.rnd := rfl
@[simp] theorem State.hardwareReset_keyed (s : State) : (s.hardwareReset).keyed = State.reset.keyed := rfl
@[simp] theorem State.hardwareReset_busy (s : State) : (s.hardwareReset).busy = State.reset.busy := rfl
@[simp] theorem State.hardwareReset_task (s : State) : (s.hardwareReset).task = State.reset.task := rfl
@[simp] theorem State.hardwareReset_fresh (s : State) : (s.hardwareReset).fresh = s.fresh + 1 := rfl
@[simp] theorem State.hardwareReset_port (s : State) : (s.hardwareReset).port = s.port := rfl

/-! ### `offerNext` -/

@[simp] theorem State.offerNext_key (w : BitVec 32) (s : State) : (s.offerNext w).key = s.key := rfl
@[simp] theorem State.offerNext_nonce (w : BitVec 32) (s : State) : (s.offerNext w).nonce = s.nonce := rfl
@[simp] theorem State.offerNext_ctr (w : BitVec 32) (s : State) : (s.offerNext w).ctr = s.ctr := rfl
@[simp] theorem State.offerNext_ms (w : BitVec 32) (s : State) : (s.offerNext w).ms = s.ms := rfl
@[simp] theorem State.offerNext_ns (w : BitVec 32) (s : State) : (s.offerNext w).ns = s.ns := rfl
@[simp] theorem State.offerNext_mac (w : BitVec 32) (s : State) : (s.offerNext w).mac = s.mac := rfl
@[simp] theorem State.offerNext_phase (w : BitVec 32) (s : State) : (s.offerNext w).phase = .idle := rfl
@[simp] theorem State.offerNext_rnd (w : BitVec 32) (s : State) : (s.offerNext w).rnd = s.rnd := rfl
@[simp] theorem State.offerNext_keyed (w : BitVec 32) (s : State) : (s.offerNext w).keyed = s.keyed := rfl
@[simp] theorem State.offerNext_busy (w : BitVec 32) (s : State) : (s.offerNext w).busy = false := rfl
@[simp] theorem State.offerNext_task (w : BitVec 32) (s : State) : (s.offerNext w).task = none := rfl
@[simp] theorem State.offerNext_fresh (w : BitVec 32) (s : State) : (s.offerNext w).fresh = s.fresh := rfl
@[simp] theorem State.offerNext_rst (w : BitVec 32) (s : State) : (s.offerNext w).port.rst = false := rfl
@[simp] theorem State.offerNext_cmd (w : BitVec 32) (s : State) : (s.offerNext w).port.cmd = w :: s.port.cmd := rfl
@[simp] theorem State.offerNext_din (w : BitVec 32) (s : State) : (s.offerNext w).port.din = s.port.din := rfl
@[simp] theorem State.offerNext_doutReady (w : BitVec 32) (s : State) : (s.offerNext w).port.doutReady = s.port.doutReady := rfl
@[simp] theorem State.offerNext_rspReady (w : BitVec 32) (s : State) : (s.offerNext w).port.rspReady = s.port.rspReady := rfl
@[simp] theorem State.offerNext_dout (w : BitVec 32) (s : State) : (s.offerNext w).port.dout = s.port.dout := rfl
@[simp] theorem State.offerNext_rsp (w : BitVec 32) (s : State) : (s.offerNext w).port.rsp = s.port.rsp := rfl

/-! ### `selectRound` -/

@[simp] theorem State.selectRound_key (par : BitVec 1) (s : State) : (s.selectRound par).key = s.key := rfl
@[simp] theorem State.selectRound_nonce (par : BitVec 1) (s : State) : (s.selectRound par).nonce = s.nonce := rfl
@[simp] theorem State.selectRound_ctr (par : BitVec 1) (s : State) : (s.selectRound par).ctr = s.ctr := rfl
@[simp] theorem State.selectRound_ms (par : BitVec 1) (s : State) : (s.selectRound par).ms = s.ms := rfl
@[simp] theorem State.selectRound_ns (par : BitVec 1) (s : State) : (s.selectRound par).ns = s.ns := rfl
@[simp] theorem State.selectRound_mac (par : BitVec 1) (s : State) : (s.selectRound par).mac = s.mac := rfl
@[simp] theorem State.selectRound_phase (par : BitVec 1) (s : State) : (s.selectRound par).phase = .gen := rfl
@[simp] theorem State.selectRound_rnd (par : BitVec 1) (s : State) : (s.selectRound par).rnd = par.setWidth 5 := rfl
@[simp] theorem State.selectRound_keyed (par : BitVec 1) (s : State) : (s.selectRound par).keyed = s.keyed := rfl
@[simp] theorem State.selectRound_busy (par : BitVec 1) (s : State) : (s.selectRound par).busy = s.busy := rfl
@[simp] theorem State.selectRound_task (par : BitVec 1) (s : State) : (s.selectRound par).task = s.task := rfl
@[simp] theorem State.selectRound_fresh (par : BitVec 1) (s : State) : (s.selectRound par).fresh = s.fresh := rfl
@[simp] theorem State.selectRound_rst (par : BitVec 1) (s : State) : (s.selectRound par).port.rst = false := rfl
@[simp] theorem State.selectRound_cmd (par : BitVec 1) (s : State) : (s.selectRound par).port.cmd = s.port.cmd := rfl
@[simp] theorem State.selectRound_din (par : BitVec 1) (s : State) : (s.selectRound par).port.din = s.port.din := rfl
@[simp] theorem State.selectRound_doutReady (par : BitVec 1) (s : State) : (s.selectRound par).port.doutReady = s.port.doutReady := rfl
@[simp] theorem State.selectRound_rspReady (par : BitVec 1) (s : State) : (s.selectRound par).port.rspReady = s.port.rspReady := rfl
@[simp] theorem State.selectRound_dout (par : BitVec 1) (s : State) : (s.selectRound par).port.dout = s.port.dout := rfl
@[simp] theorem State.selectRound_rsp (par : BitVec 1) (s : State) : (s.selectRound par).port.rsp = s.port.rsp := rfl

/-! ### `assertRst` -/

@[simp] theorem State.assertRst_key (s : State) : (s.assertRst).key = s.key := rfl
@[simp] theorem State.assertRst_nonce (s : State) : (s.assertRst).nonce = s.nonce := rfl
@[simp] theorem State.assertRst_ctr (s : State) : (s.assertRst).ctr = s.ctr := rfl
@[simp] theorem State.assertRst_ms (s : State) : (s.assertRst).ms = s.ms := rfl
@[simp] theorem State.assertRst_ns (s : State) : (s.assertRst).ns = s.ns := rfl
@[simp] theorem State.assertRst_mac (s : State) : (s.assertRst).mac = s.mac := rfl
@[simp] theorem State.assertRst_phase (s : State) : (s.assertRst).phase = s.phase := rfl
@[simp] theorem State.assertRst_rnd (s : State) : (s.assertRst).rnd = s.rnd := rfl
@[simp] theorem State.assertRst_keyed (s : State) : (s.assertRst).keyed = s.keyed := rfl
@[simp] theorem State.assertRst_busy (s : State) : (s.assertRst).busy = s.busy := rfl
@[simp] theorem State.assertRst_task (s : State) : (s.assertRst).task = s.task := rfl
@[simp] theorem State.assertRst_fresh (s : State) : (s.assertRst).fresh = s.fresh := rfl
@[simp] theorem State.assertRst_rst (s : State) : (s.assertRst).port.rst = true := rfl
@[simp] theorem State.assertRst_cmd (s : State) : (s.assertRst).port.cmd = s.port.cmd := rfl
@[simp] theorem State.assertRst_din (s : State) : (s.assertRst).port.din = s.port.din := rfl
@[simp] theorem State.assertRst_doutReady (s : State) : (s.assertRst).port.doutReady = s.port.doutReady := rfl
@[simp] theorem State.assertRst_rspReady (s : State) : (s.assertRst).port.rspReady = s.port.rspReady := rfl
@[simp] theorem State.assertRst_dout (s : State) : (s.assertRst).port.dout = s.port.dout := rfl
@[simp] theorem State.assertRst_rsp (s : State) : (s.assertRst).port.rsp = s.port.rsp := rfl

/-! ### `releaseRst` -/

@[simp] theorem State.releaseRst_key (s : State) : (s.releaseRst).key = s.key := rfl
@[simp] theorem State.releaseRst_nonce (s : State) : (s.releaseRst).nonce = s.nonce := rfl
@[simp] theorem State.releaseRst_ctr (s : State) : (s.releaseRst).ctr = s.ctr := rfl
@[simp] theorem State.releaseRst_ms (s : State) : (s.releaseRst).ms = s.ms := rfl
@[simp] theorem State.releaseRst_ns (s : State) : (s.releaseRst).ns = s.ns := rfl
@[simp] theorem State.releaseRst_mac (s : State) : (s.releaseRst).mac = s.mac := rfl
@[simp] theorem State.releaseRst_phase (s : State) : (s.releaseRst).phase = s.phase := rfl
@[simp] theorem State.releaseRst_rnd (s : State) : (s.releaseRst).rnd = s.rnd := rfl
@[simp] theorem State.releaseRst_keyed (s : State) : (s.releaseRst).keyed = s.keyed := rfl
@[simp] theorem State.releaseRst_busy (s : State) : (s.releaseRst).busy = s.busy := rfl
@[simp] theorem State.releaseRst_task (s : State) : (s.releaseRst).task = s.task := rfl
@[simp] theorem State.releaseRst_fresh (s : State) : (s.releaseRst).fresh = s.fresh := rfl
@[simp] theorem State.releaseRst_rst (s : State) : (s.releaseRst).port.rst = false := rfl
@[simp] theorem State.releaseRst_cmd (s : State) : (s.releaseRst).port.cmd = s.port.cmd := rfl
@[simp] theorem State.releaseRst_din (s : State) : (s.releaseRst).port.din = s.port.din := rfl
@[simp] theorem State.releaseRst_doutReady (s : State) : (s.releaseRst).port.doutReady = s.port.doutReady := rfl
@[simp] theorem State.releaseRst_rspReady (s : State) : (s.releaseRst).port.rspReady = s.port.rspReady := rfl
@[simp] theorem State.releaseRst_dout (s : State) : (s.releaseRst).port.dout = s.port.dout := rfl
@[simp] theorem State.releaseRst_rsp (s : State) : (s.releaseRst).port.rsp = s.port.rsp := rfl

/-! ### `offerCommand` -/

@[simp] theorem State.offerCommand_key (w : BitVec 32) (s : State) : (s.offerCommand w).key = s.key := rfl
@[simp] theorem State.offerCommand_nonce (w : BitVec 32) (s : State) : (s.offerCommand w).nonce = s.nonce := rfl
@[simp] theorem State.offerCommand_ctr (w : BitVec 32) (s : State) : (s.offerCommand w).ctr = s.ctr := rfl
@[simp] theorem State.offerCommand_ms (w : BitVec 32) (s : State) : (s.offerCommand w).ms = s.ms := rfl
@[simp] theorem State.offerCommand_ns (w : BitVec 32) (s : State) : (s.offerCommand w).ns = s.ns := rfl
@[simp] theorem State.offerCommand_mac (w : BitVec 32) (s : State) : (s.offerCommand w).mac = s.mac := rfl
@[simp] theorem State.offerCommand_phase (w : BitVec 32) (s : State) : (s.offerCommand w).phase = s.phase := rfl
@[simp] theorem State.offerCommand_rnd (w : BitVec 32) (s : State) : (s.offerCommand w).rnd = s.rnd := rfl
@[simp] theorem State.offerCommand_keyed (w : BitVec 32) (s : State) : (s.offerCommand w).keyed = s.keyed := rfl
@[simp] theorem State.offerCommand_busy (w : BitVec 32) (s : State) : (s.offerCommand w).busy = s.busy := rfl
@[simp] theorem State.offerCommand_task (w : BitVec 32) (s : State) : (s.offerCommand w).task = s.task := rfl
@[simp] theorem State.offerCommand_fresh (w : BitVec 32) (s : State) : (s.offerCommand w).fresh = s.fresh := rfl
@[simp] theorem State.offerCommand_rst (w : BitVec 32) (s : State) : (s.offerCommand w).port.rst = s.port.rst := rfl
@[simp] theorem State.offerCommand_cmd (w : BitVec 32) (s : State) : (s.offerCommand w).port.cmd = s.port.cmd ++ [w] := rfl
@[simp] theorem State.offerCommand_din (w : BitVec 32) (s : State) : (s.offerCommand w).port.din = s.port.din := rfl
@[simp] theorem State.offerCommand_doutReady (w : BitVec 32) (s : State) : (s.offerCommand w).port.doutReady = s.port.doutReady := rfl
@[simp] theorem State.offerCommand_rspReady (w : BitVec 32) (s : State) : (s.offerCommand w).port.rspReady = s.port.rspReady := rfl
@[simp] theorem State.offerCommand_dout (w : BitVec 32) (s : State) : (s.offerCommand w).port.dout = s.port.dout := rfl
@[simp] theorem State.offerCommand_rsp (w : BitVec 32) (s : State) : (s.offerCommand w).port.rsp = s.port.rsp := rfl

/-! ### `offerPayload` -/

@[simp] theorem State.offerPayload_key (bytes : List Byte) (s : State) : (s.offerPayload bytes).key = s.key := rfl
@[simp] theorem State.offerPayload_nonce (bytes : List Byte) (s : State) : (s.offerPayload bytes).nonce = s.nonce := rfl
@[simp] theorem State.offerPayload_ctr (bytes : List Byte) (s : State) : (s.offerPayload bytes).ctr = s.ctr := rfl
@[simp] theorem State.offerPayload_ms (bytes : List Byte) (s : State) : (s.offerPayload bytes).ms = s.ms := rfl
@[simp] theorem State.offerPayload_ns (bytes : List Byte) (s : State) : (s.offerPayload bytes).ns = s.ns := rfl
@[simp] theorem State.offerPayload_mac (bytes : List Byte) (s : State) : (s.offerPayload bytes).mac = s.mac := rfl
@[simp] theorem State.offerPayload_phase (bytes : List Byte) (s : State) : (s.offerPayload bytes).phase = s.phase := rfl
@[simp] theorem State.offerPayload_rnd (bytes : List Byte) (s : State) : (s.offerPayload bytes).rnd = s.rnd := rfl
@[simp] theorem State.offerPayload_keyed (bytes : List Byte) (s : State) : (s.offerPayload bytes).keyed = s.keyed := rfl
@[simp] theorem State.offerPayload_busy (bytes : List Byte) (s : State) : (s.offerPayload bytes).busy = s.busy := rfl
@[simp] theorem State.offerPayload_task (bytes : List Byte) (s : State) : (s.offerPayload bytes).task = s.task := rfl
@[simp] theorem State.offerPayload_fresh (bytes : List Byte) (s : State) : (s.offerPayload bytes).fresh = s.fresh := rfl
@[simp] theorem State.offerPayload_rst (bytes : List Byte) (s : State) : (s.offerPayload bytes).port.rst = s.port.rst := rfl
@[simp] theorem State.offerPayload_cmd (bytes : List Byte) (s : State) : (s.offerPayload bytes).port.cmd = s.port.cmd := rfl
@[simp] theorem State.offerPayload_din (bytes : List Byte) (s : State) : (s.offerPayload bytes).port.din = s.port.din ++ bytes := rfl
@[simp] theorem State.offerPayload_doutReady (bytes : List Byte) (s : State) : (s.offerPayload bytes).port.doutReady = s.port.doutReady := rfl
@[simp] theorem State.offerPayload_rspReady (bytes : List Byte) (s : State) : (s.offerPayload bytes).port.rspReady = s.port.rspReady := rfl
@[simp] theorem State.offerPayload_dout (bytes : List Byte) (s : State) : (s.offerPayload bytes).port.dout = s.port.dout := rfl
@[simp] theorem State.offerPayload_rsp (bytes : List Byte) (s : State) : (s.offerPayload bytes).port.rsp = s.port.rsp := rfl

/-! ### `withdrawCommands` -/

@[simp] theorem State.withdrawCommands_key (s : State) : (s.withdrawCommands).key = s.key := rfl
@[simp] theorem State.withdrawCommands_nonce (s : State) : (s.withdrawCommands).nonce = s.nonce := rfl
@[simp] theorem State.withdrawCommands_ctr (s : State) : (s.withdrawCommands).ctr = s.ctr := rfl
@[simp] theorem State.withdrawCommands_ms (s : State) : (s.withdrawCommands).ms = s.ms := rfl
@[simp] theorem State.withdrawCommands_ns (s : State) : (s.withdrawCommands).ns = s.ns := rfl
@[simp] theorem State.withdrawCommands_mac (s : State) : (s.withdrawCommands).mac = s.mac := rfl
@[simp] theorem State.withdrawCommands_phase (s : State) : (s.withdrawCommands).phase = s.phase := rfl
@[simp] theorem State.withdrawCommands_rnd (s : State) : (s.withdrawCommands).rnd = s.rnd := rfl
@[simp] theorem State.withdrawCommands_keyed (s : State) : (s.withdrawCommands).keyed = s.keyed := rfl
@[simp] theorem State.withdrawCommands_busy (s : State) : (s.withdrawCommands).busy = s.busy := rfl
@[simp] theorem State.withdrawCommands_task (s : State) : (s.withdrawCommands).task = s.task := rfl
@[simp] theorem State.withdrawCommands_fresh (s : State) : (s.withdrawCommands).fresh = s.fresh := rfl
@[simp] theorem State.withdrawCommands_rst (s : State) : (s.withdrawCommands).port.rst = s.port.rst := rfl
@[simp] theorem State.withdrawCommands_cmd (s : State) : (s.withdrawCommands).port.cmd = [] := rfl
@[simp] theorem State.withdrawCommands_din (s : State) : (s.withdrawCommands).port.din = s.port.din := rfl
@[simp] theorem State.withdrawCommands_doutReady (s : State) : (s.withdrawCommands).port.doutReady = s.port.doutReady := rfl
@[simp] theorem State.withdrawCommands_rspReady (s : State) : (s.withdrawCommands).port.rspReady = s.port.rspReady := rfl
@[simp] theorem State.withdrawCommands_dout (s : State) : (s.withdrawCommands).port.dout = s.port.dout := rfl
@[simp] theorem State.withdrawCommands_rsp (s : State) : (s.withdrawCommands).port.rsp = s.port.rsp := rfl

/-! ### `withdrawPayload` -/

@[simp] theorem State.withdrawPayload_key (s : State) : (s.withdrawPayload).key = s.key := rfl
@[simp] theorem State.withdrawPayload_nonce (s : State) : (s.withdrawPayload).nonce = s.nonce := rfl
@[simp] theorem State.withdrawPayload_ctr (s : State) : (s.withdrawPayload).ctr = s.ctr := rfl
@[simp] theorem State.withdrawPayload_ms (s : State) : (s.withdrawPayload).ms = s.ms := rfl
@[simp] theorem State.withdrawPayload_ns (s : State) : (s.withdrawPayload).ns = s.ns := rfl
@[simp] theorem State.withdrawPayload_mac (s : State) : (s.withdrawPayload).mac = s.mac := rfl
@[simp] theorem State.withdrawPayload_phase (s : State) : (s.withdrawPayload).phase = s.phase := rfl
@[simp] theorem State.withdrawPayload_rnd (s : State) : (s.withdrawPayload).rnd = s.rnd := rfl
@[simp] theorem State.withdrawPayload_keyed (s : State) : (s.withdrawPayload).keyed = s.keyed := rfl
@[simp] theorem State.withdrawPayload_busy (s : State) : (s.withdrawPayload).busy = s.busy := rfl
@[simp] theorem State.withdrawPayload_task (s : State) : (s.withdrawPayload).task = s.task := rfl
@[simp] theorem State.withdrawPayload_fresh (s : State) : (s.withdrawPayload).fresh = s.fresh := rfl
@[simp] theorem State.withdrawPayload_rst (s : State) : (s.withdrawPayload).port.rst = s.port.rst := rfl
@[simp] theorem State.withdrawPayload_cmd (s : State) : (s.withdrawPayload).port.cmd = s.port.cmd := rfl
@[simp] theorem State.withdrawPayload_din (s : State) : (s.withdrawPayload).port.din = [] := rfl
@[simp] theorem State.withdrawPayload_doutReady (s : State) : (s.withdrawPayload).port.doutReady = s.port.doutReady := rfl
@[simp] theorem State.withdrawPayload_rspReady (s : State) : (s.withdrawPayload).port.rspReady = s.port.rspReady := rfl
@[simp] theorem State.withdrawPayload_dout (s : State) : (s.withdrawPayload).port.dout = s.port.dout := rfl
@[simp] theorem State.withdrawPayload_rsp (s : State) : (s.withdrawPayload).port.rsp = s.port.rsp := rfl

/-! ### `setDoutReady` -/

@[simp] theorem State.setDoutReady_key (ready : Bool) (s : State) : (s.setDoutReady ready).key = s.key := rfl
@[simp] theorem State.setDoutReady_nonce (ready : Bool) (s : State) : (s.setDoutReady ready).nonce = s.nonce := rfl
@[simp] theorem State.setDoutReady_ctr (ready : Bool) (s : State) : (s.setDoutReady ready).ctr = s.ctr := rfl
@[simp] theorem State.setDoutReady_ms (ready : Bool) (s : State) : (s.setDoutReady ready).ms = s.ms := rfl
@[simp] theorem State.setDoutReady_ns (ready : Bool) (s : State) : (s.setDoutReady ready).ns = s.ns := rfl
@[simp] theorem State.setDoutReady_mac (ready : Bool) (s : State) : (s.setDoutReady ready).mac = s.mac := rfl
@[simp] theorem State.setDoutReady_phase (ready : Bool) (s : State) : (s.setDoutReady ready).phase = s.phase := rfl
@[simp] theorem State.setDoutReady_rnd (ready : Bool) (s : State) : (s.setDoutReady ready).rnd = s.rnd := rfl
@[simp] theorem State.setDoutReady_keyed (ready : Bool) (s : State) : (s.setDoutReady ready).keyed = s.keyed := rfl
@[simp] theorem State.setDoutReady_busy (ready : Bool) (s : State) : (s.setDoutReady ready).busy = s.busy := rfl
@[simp] theorem State.setDoutReady_task (ready : Bool) (s : State) : (s.setDoutReady ready).task = s.task := rfl
@[simp] theorem State.setDoutReady_fresh (ready : Bool) (s : State) : (s.setDoutReady ready).fresh = s.fresh := rfl
@[simp] theorem State.setDoutReady_rst (ready : Bool) (s : State) : (s.setDoutReady ready).port.rst = s.port.rst := rfl
@[simp] theorem State.setDoutReady_cmd (ready : Bool) (s : State) : (s.setDoutReady ready).port.cmd = s.port.cmd := rfl
@[simp] theorem State.setDoutReady_din (ready : Bool) (s : State) : (s.setDoutReady ready).port.din = s.port.din := rfl
@[simp] theorem State.setDoutReady_doutReady (ready : Bool) (s : State) : (s.setDoutReady ready).port.doutReady = ready := rfl
@[simp] theorem State.setDoutReady_rspReady (ready : Bool) (s : State) : (s.setDoutReady ready).port.rspReady = s.port.rspReady := rfl
@[simp] theorem State.setDoutReady_dout (ready : Bool) (s : State) : (s.setDoutReady ready).port.dout = s.port.dout := rfl
@[simp] theorem State.setDoutReady_rsp (ready : Bool) (s : State) : (s.setDoutReady ready).port.rsp = s.port.rsp := rfl

/-! ### `setRspReady` -/

@[simp] theorem State.setRspReady_key (ready : Bool) (s : State) : (s.setRspReady ready).key = s.key := rfl
@[simp] theorem State.setRspReady_nonce (ready : Bool) (s : State) : (s.setRspReady ready).nonce = s.nonce := rfl
@[simp] theorem State.setRspReady_ctr (ready : Bool) (s : State) : (s.setRspReady ready).ctr = s.ctr := rfl
@[simp] theorem State.setRspReady_ms (ready : Bool) (s : State) : (s.setRspReady ready).ms = s.ms := rfl
@[simp] theorem State.setRspReady_ns (ready : Bool) (s : State) : (s.setRspReady ready).ns = s.ns := rfl
@[simp] theorem State.setRspReady_mac (ready : Bool) (s : State) : (s.setRspReady ready).mac = s.mac := rfl
@[simp] theorem State.setRspReady_phase (ready : Bool) (s : State) : (s.setRspReady ready).phase = s.phase := rfl
@[simp] theorem State.setRspReady_rnd (ready : Bool) (s : State) : (s.setRspReady ready).rnd = s.rnd := rfl
@[simp] theorem State.setRspReady_keyed (ready : Bool) (s : State) : (s.setRspReady ready).keyed = s.keyed := rfl
@[simp] theorem State.setRspReady_busy (ready : Bool) (s : State) : (s.setRspReady ready).busy = s.busy := rfl
@[simp] theorem State.setRspReady_task (ready : Bool) (s : State) : (s.setRspReady ready).task = s.task := rfl
@[simp] theorem State.setRspReady_fresh (ready : Bool) (s : State) : (s.setRspReady ready).fresh = s.fresh := rfl
@[simp] theorem State.setRspReady_rst (ready : Bool) (s : State) : (s.setRspReady ready).port.rst = s.port.rst := rfl
@[simp] theorem State.setRspReady_cmd (ready : Bool) (s : State) : (s.setRspReady ready).port.cmd = s.port.cmd := rfl
@[simp] theorem State.setRspReady_din (ready : Bool) (s : State) : (s.setRspReady ready).port.din = s.port.din := rfl
@[simp] theorem State.setRspReady_doutReady (ready : Bool) (s : State) : (s.setRspReady ready).port.doutReady = s.port.doutReady := rfl
@[simp] theorem State.setRspReady_rspReady (ready : Bool) (s : State) : (s.setRspReady ready).port.rspReady = ready := rfl
@[simp] theorem State.setRspReady_dout (ready : Bool) (s : State) : (s.setRspReady ready).port.dout = s.port.dout := rfl
@[simp] theorem State.setRspReady_rsp (ready : Bool) (s : State) : (s.setRspReady ready).port.rsp = s.port.rsp := rfl

end Sys2Proof.Machine
end

