-- ==== Sys2Proof/Laws/Ops.lean ====
section
/-! SUPPORT. What each shared operation does, said once: buffers, rounds, block generation, the
chunk loop, and the two ways a command can go (at once, or accepted). -/

namespace Sys2Proof.Machine

/-! ### Buffers -/

@[simp] theorem wordBytes_eq : wordBytes = 8 := rfl

@[simp] theorem w2b_length (w : Word) : (w2b w).length = 8 := by simp [w2b]

@[simp] theorem words2buf_length {n : Nat} (v : Words n) : (words2buf v).length = 8 * n := by
  simp only [words2buf, List.length_flatMap, w2b_length, List.map_const', List.sum_replicate_nat,
    Vector.length_toList]
  omega

@[simp] theorem xorBytes_length (a b : List Byte) :
    (xorBytes a b).length = min a.length b.length := by simp [xorBytes]

@[simp] theorem blockBytes_length (s : State) : s.blockBytes.length = 64 := by
  simp [State.blockBytes]

theorem memRead_length {buf : List Byte} {off n : Nat} (h : off + n ≤ buf.length) :
    (memRead buf off n).length = n := by simp [memRead]; omega

/-! ### Whether the host serves a command at once -/

theorem served_iff {s : State} {nIn nOut : Nat} :
    s.served nIn nOut = true ↔
      nIn ≤ s.port.din.length ∧ (nOut = 0 ∨ s.port.doutReady = true) ∧ s.port.rspReady = true := by
  simp [State.served, and_assoc]

theorem fail_of_served {s : State} {r : Response} {n : Nat} (h : s.served n 0 = true) :
    s.fail r n = s.raise r n := by simp [State.fail, h]

theorem fail_of_not_served {s : State} {r : Response} {n : Nat} (h : s.served n 0 = false) :
    s.fail r n = s.accept (.discard n r) := by simp [State.fail, h]

/-- The two outcomes of an error, whichever way the host goes. -/
theorem fail_cases (s : State) (r : Response) (n : Nat) :
    (s.served n 0 = true ∧ s.fail r n = s.raise r n) ∨
      (s.served n 0 = false ∧ s.fail r n = s.accept (.discard n r)) := by
  cases h : s.served n 0
  · exact .inr ⟨rfl, fail_of_not_served h⟩
  · exact .inl ⟨rfl, fail_of_served h⟩

/-! ### Rounds -/

/-- R105: what `k` rounds leave alone. -/
theorem rounds_frame (k : Nat) (s : State) :
    ∃ m n r, s.rounds k = { s with ms := m, ns := n, rnd := r } := by
  induction k generalizing s with
  | zero => exact ⟨s.ms, s.ns, s.rnd, rfl⟩
  | succ k ih =>
    obtain ⟨m, n, r, h⟩ := ih (s.roundStep (parityOf s.rnd))
    exact ⟨m, n, r, h⟩

theorem rounds_succ_eq (k : Nat) (s : State) :
    s.rounds (k + 1) = (s.rounds k).roundStep (parityOf (s.rounds k).rnd) := by
  induction k generalizing s with
  | zero => rfl
  | succ k ih =>
    rw [State.rounds, ih]
    rfl

theorem rounds_rnd (k : Nat) (s : State) : (s.rounds k).rnd = s.rnd + BitVec.ofNat 5 k := by
  induction k with
  | zero => simp [State.rounds]
  | succ k ih =>
    rw [rounds_succ_eq, State.roundStep_rnd, ih]
    rw [BitVec.ofNat_add, BitVec.add_assoc]; rfl

/-- R112: once a round has run, `ms` and `ns` hold the same words. -/
theorem rounds_residue (k : Nat) (s : State) : (s.rounds (k + 1)).ms = (s.rounds (k + 1)).ns := by
  rw [rounds_succ_eq]; rfl

/-! ### Block generation -/

/-- R103, R106: what a block generation writes, and that it writes nothing else. -/
theorem genBlock_frame (s : State) :
    ∃ m, s.genBlock = { s with ms := m, ns := m, ctr := s.ctr + 1, phase := .idle, rnd := 0 } := by
  obtain ⟨m, n, r, h⟩ := rounds_frame 32 s.stateLoad
  have hres := rounds_residue 31 s.stateLoad
  rw [h] at hres
  refine ⟨m, ?_⟩
  have hmn : m = n := hres
  subst hmn
  show ((s.stateLoad).rounds 32).finish = _
  rw [h]; rfl

@[simp] theorem genBlock_key (s : State) : s.genBlock.key = s.key := by
  obtain ⟨m, h⟩ := genBlock_frame s; rw [h]
@[simp] theorem genBlock_nonce (s : State) : s.genBlock.nonce = s.nonce := by
  obtain ⟨m, h⟩ := genBlock_frame s; rw [h]
@[simp] theorem genBlock_ctr (s : State) : s.genBlock.ctr = s.ctr + 1 := by
  obtain ⟨m, h⟩ := genBlock_frame s; rw [h]
@[simp] theorem genBlock_mac (s : State) : s.genBlock.mac = s.mac := by
  obtain ⟨m, h⟩ := genBlock_frame s; rw [h]
@[simp] theorem genBlock_phase (s : State) : s.genBlock.phase = .idle := by
  obtain ⟨m, h⟩ := genBlock_frame s; rw [h]
@[simp] theorem genBlock_rnd (s : State) : s.genBlock.rnd = 0 := by
  obtain ⟨m, h⟩ := genBlock_frame s; rw [h]
@[simp] theorem genBlock_keyed (s : State) : s.genBlock.keyed = s.keyed := by
  obtain ⟨m, h⟩ := genBlock_frame s; rw [h]
@[simp] theorem genBlock_busy (s : State) : s.genBlock.busy = s.busy := by
  obtain ⟨m, h⟩ := genBlock_frame s; rw [h]
@[simp] theorem genBlock_task (s : State) : s.genBlock.task = s.task := by
  obtain ⟨m, h⟩ := genBlock_frame s; rw [h]
@[simp] theorem genBlock_port (s : State) : s.genBlock.port = s.port := by
  obtain ⟨m, h⟩ := genBlock_frame s; rw [h]
@[simp] theorem genBlock_fresh (s : State) : s.genBlock.fresh = s.fresh := by
  obtain ⟨m, h⟩ := genBlock_frame s; rw [h]
theorem genBlock_residue (s : State) : s.genBlock.ms = s.genBlock.ns := by
  obtain ⟨m, h⟩ := genBlock_frame s; rw [h]

/-! ### The chunk loop of `XORKS` -/

/-- R120: what the chunk loop leaves alone: everything but the counter, the working buffers, the
sequencer and the output. -/
theorem applyChunks_frame (k : Nat) (src : List Byte) (s : State) :
    ∃ c m n ph r out, s.applyChunks k src =
      { s with ctr := c, ms := m, ns := n, phase := ph, rnd := r,
               port := { s.port with dout := s.port.dout ++ out } } := by
  induction k generalizing src s with
  | zero => exact ⟨s.ctr, s.ms, s.ns, s.phase, s.rnd, [], by simp [State.applyChunks]⟩
  | succ k ih =>
    obtain ⟨m₀, h₀⟩ := genBlock_frame s
    obtain ⟨c, m, n, ph, r, out, h⟩ := ih (src.drop params.blockLen)
      (s.genBlock.deliver (xorBytes (src.take params.blockLen) s.genBlock.blockBytes))
    refine ⟨c, m, n, ph, r, xorBytes (src.take params.blockLen) s.genBlock.blockBytes ++ out, ?_⟩
    rw [State.applyChunks, h, h₀]
    simp [State.deliver]

/-- R128: each chunk advances the counter by one. -/
theorem applyChunks_ctr (k : Nat) (src : List Byte) (s : State) :
    (s.applyChunks k src).ctr = s.ctr + BitVec.ofNat 64 k := by
  induction k generalizing src s with
  | zero => simp [State.applyChunks]
  | succ k ih =>
    rw [State.applyChunks, ih]
    simp only [State.deliver_ctr, genBlock_ctr]
    rw [Nat.add_comm k 1, BitVec.ofNat_add, ← BitVec.add_assoc]; rfl

/-! ### The commands that run at once -/

/-- R103, R106: what a served `GENBLOCK` on a keyed unit writes, and that it writes nothing else. -/
theorem genblockNow_frame (s : State) :
    ∃ m out, s.genblockNow =
      { s with ctr := s.ctr + 1, ms := m, ns := m, phase := .idle, rnd := 0, busy := false, task := none,
               port := { s.port with dout := s.port.dout ++ out, rsp := s.port.rsp ++ [.ok] } } := by
  obtain ⟨m, h⟩ := genBlock_frame s
  refine ⟨m, s.genBlock.blockBytes, ?_⟩
  rw [State.genblockNow]
  generalize s.genBlock.blockBytes = out
  rw [h]; rfl

/-- R120, R128: what a served `XORKS` on a keyed unit writes, and that it writes nothing else. -/
theorem xorksNow_frame (len : Nat) (s : State) :
    ∃ m n ph r out, s.xorksNow len =
      { s with ctr := s.ctr + BitVec.ofNat 64 ((len + 63) / 64), ms := m, ns := n, phase := ph, rnd := r,
               busy := false, task := none,
               port := { s.port with din := s.port.din.drop len, dout := s.port.dout ++ out,
                                     rsp := s.port.rsp ++ [.ok] } } := by
  have hc := applyChunks_ctr (chunkCount len) (memRead s.port.din 0 len) s
  obtain ⟨c, m, n, ph, r, out, h⟩ :=
    applyChunks_frame (chunkCount len) (memRead s.port.din 0 len) s
  rw [h] at hc
  refine ⟨m, n, ph, r, out, ?_⟩
  rw [State.xorksNow, h, show c = _ from hc]
  rfl

end Sys2Proof.Machine
end

