-- ==== Sys2Proof/Laws/PerInstr.lean ====
section
/-! SUPPORT. Statements made of every instruction, one lemma per constructor: the encoding of a
well-formed instruction carries its own opcode, or its own parity (spec/30_encoding.md R61, R68). -/

namespace Sys2Proof.Laws.CarriesItsOpcode

/-- R61, R68: what tells the instruction from the others in its encoding. -/
def opcode : Instr → Nat
  | .init _ _ => 1
  | .reset    => 2
  | .genblock => 3
  | .xorks _  => 4
  | .rndE     => 0
  | .rndO     => 1

/-- A command's word has the command's `op`; a micro-operation is the parity itself. -/
def Statement (i : Instr) : Prop :=
  i.wellFormed = true →
    match encode i with
    | .word w   => wordField w 28 4 = opcode i
    | .parity p => p.toNat = opcode i

theorem init (klen nlen : Nat) : Statement (.init klen nlen) := by
  intro h
  simp only [Instr.wellFormed, Bool.and_eq_true, decide_eq_true_eq] at h
  simp only [encode, wordField_eq, init_word_toNat h.1 h.2, opcode]
  omega

theorem reset : Statement .reset := by intro _; rfl

theorem genblock : Statement .genblock := by intro _; rfl

theorem xorks (len : Nat) : Statement (.xorks len) := by
  intro h
  simp only [Instr.wellFormed, decide_eq_true_eq] at h
  simp only [encode, wordField_eq, xorks_word_toNat h, opcode]
  omega

theorem rndE : Statement .rndE := by intro _; rfl

theorem rndO : Statement .rndO := by intro _; rfl

end Sys2Proof.Laws.CarriesItsOpcode
end

