-- ==== Sys2Proof/Laws/Step.lean ====
section
/-! SUPPORT. What `fetch` and `step` do, said once. -/

namespace Sys2Proof.Machine

theorem step_of_goes {s t : State} (h : s.fetch = .goes t) : step s = .next t := by
  simp [step, h]

theorem step_of_runs {s t u : State} {i : Instr} (h : s.fetch = .runs i t)
    (he : exec i t = .next u) : step s = .next (State.settle i t u) := by
  simp [step, h, he]

/-- Everything `fetch` can find, in the order in which it looks. -/
theorem fetch_cases (s : State) :
    (s.port.rst = true ∧ s.fetch = .goes s.hardwareReset) ∨
    (s.port.rst = false ∧ s.phase = .gen ∧ s.fetch = .runs (microOp s.rnd) s) ∨
    (∃ t, s.port.rst = false ∧ s.phase = .idle ∧ s.task = some t ∧ s.fetch = .goes (s.progress t)) ∨
    (s.port.rst = false ∧ s.phase = .idle ∧ s.task = none ∧ s.busy = true ∧ s.fetch = .goes s) ∨
    (s.port.rst = false ∧ s.phase = .idle ∧ s.task = none ∧ s.busy = false ∧
      s.fetch = s.fetchCommand) := by
  unfold State.fetch
  cases hr : s.port.rst <;> cases hp : s.phase <;> cases ht : s.task <;> cases hb : s.busy <;> simp

/-- What an idle unit does with the words the host offers. -/
theorem fetchCommand_cases (s : State) :
    (s.port.cmd = [] ∧ s.fetchCommand = .goes s) ∨
    (∃ w ws i, s.port.cmd = w :: ws ∧ decodeWord w = .ok i ∧ s.fetchCommand = .runs i (s.withCmd ws)) ∨
    (∃ w ws e, s.port.cmd = w :: ws ∧ decodeWord w = .error e ∧
      s.fetchCommand = .goes (s.withCmd ws).illegal) := by
  unfold State.fetchCommand
  cases hc : s.port.cmd with
  | nil => exact .inl ⟨rfl, rfl⟩
  | cons w ws =>
    cases hd : decodeWord w with
    | error e => exact .inr (.inr ⟨w, ws, e, rfl, hd, by simp [hd]⟩)
    | ok i => exact .inr (.inl ⟨w, ws, i, rfl, hd, by simp [hd]⟩)

/-- R68: the round about to run is one of the two micro-operations. -/
theorem microOp_cases (rnd : BitVec 5) :
    (parityOf rnd = .even ∧ microOp rnd = .rndE) ∨ (parityOf rnd = .odd ∧ microOp rnd = .rndO) := by
  revert rnd; decide

/-- R26, R31, R111, R152: everything a step can do. -/
theorem step_cases (s : State) :
    (s.port.rst = true ∧ step s = .next s.hardwareReset) ∨
    (s.port.rst = false ∧ s.phase = .gen ∧ s.lastRound = false ∧
      step s = .next (s.roundStep (parityOf s.rnd))) ∨
    (s.port.rst = false ∧ s.phase = .gen ∧ s.lastRound = true ∧
      step s = .next (s.roundStep (parityOf s.rnd)).finishBlock) ∨
    (∃ t, s.port.rst = false ∧ s.phase = .idle ∧ s.task = some t ∧ step s = .next (s.progress t)) ∨
    (s.port.rst = false ∧ s.phase = .idle ∧ s.task = none ∧ (s.busy = true ∨ s.port.cmd = []) ∧
      step s = .next s) ∨
    (∃ w ws i, s.port.rst = false ∧ s.phase = .idle ∧ s.task = none ∧ s.busy = false ∧
      s.port.cmd = w :: ws ∧ decodeWord w = .ok i ∧ step s = exec i (s.withCmd ws)) ∨
    (∃ w ws e, s.port.rst = false ∧ s.phase = .idle ∧ s.task = none ∧ s.busy = false ∧
      s.port.cmd = w :: ws ∧ decodeWord w = .error e ∧ step s = .next (s.withCmd ws).illegal) := by
  rcases fetch_cases s with ⟨hr, h⟩ | ⟨hr, hp, h⟩ | ⟨t, hr, hp, ht, h⟩ | ⟨hr, hp, ht, hb, h⟩ |
    ⟨hr, hp, ht, hb, h⟩
  · exact .inl ⟨hr, step_of_goes h⟩
  · rcases microOp_cases s.rnd with ⟨e, m⟩ | ⟨e, m⟩ <;> cases hl : s.lastRound <;>
      simp [step, h, hr, hp, e, m, hl, exec, execRndE, execRndO, State.settle]
  · exact .inr (.inr (.inr (.inl ⟨t, hr, hp, ht, step_of_goes h⟩)))
  · exact .inr (.inr (.inr (.inr (.inl ⟨hr, hp, ht, .inl hb, step_of_goes h⟩))))
  · rcases fetchCommand_cases s with ⟨hc, d⟩ | ⟨w, ws, i, hc, hd, d⟩ | ⟨w, ws, e, hc, hd, d⟩
    · exact .inr (.inr (.inr (.inr (.inl ⟨hr, hp, ht, .inr hc, step_of_goes (h.trans d)⟩))))
    · refine .inr (.inr (.inr (.inr (.inr (.inl ⟨w, ws, i, hr, hp, ht, hb, hc, hd, ?_⟩)))))
      obtain ⟨hE, hO⟩ := decodeWord_ne_micro hd
      have hs : ∀ t u, State.settle i t u = u := by
        cases i <;> simp_all [State.settle]
      simp only [step, h, d, hs]
      cases exec i (s.withCmd ws) <;> rfl
    · exact .inr (.inr (.inr (.inr (.inr (.inr
        ⟨w, ws, e, hr, hp, ht, hb, hc, hd, step_of_goes (h.trans d)⟩)))))

end Sys2Proof.Machine
end

