-- ==== Sys2Proof/Tests/Slice0.lean ====
section
/-! SUPPORT. The model's own tests: the WellFormed smoke, words written out from the spec's encodings,
the vectors of spec/95_test_vectors.md, and a witness for every obligation that has hypotheses. -/

namespace Sys2Proof.Tests

open Sys2Proof.Machine

/-! ### Small states and readers -/

/-- `n` bytes counting up from `a`, as the vectors of spec/95 write them. -/
def bytes (a n : Nat) : List Byte := (List.range n).map fun i => BitVec.ofNat 8 (a + i)

/-- The state of an outcome; the reset state where it is none. -/
def after : Host.Outcome State Fault Refusal → State
  | .next t    => t
  | .fault _   => State.reset
  | .refused _ => State.reset

/-- Keyed as in V50, `ctr = 0`. -/
def keyedState : State :=
  { State.reset with
    key := #v[0x0001020304050607, 0x08090A0B0C0D0E0F, 0x1011121314151617, 0x18191A1B1C1D1E1F]
    nonce := #v[0x2021222324252627, 0x28292A2B2C2D2E2F], keyed := true }

/-- Keyed with the all-zero key and nonce (V30). -/
def zeroKeyed : State := { State.reset with keyed := true }

/-- A unit in the middle of a `GENBLOCK`, about to run the round with index `r`. -/
def midBlock (r : BitVec 5) : State :=
  { keyedState with phase := .gen, rnd := r, busy := true, task := some .genblock }

/-- A keyed unit with a command in progress. -/
def withTask (t : Task) : State := { keyedState with busy := true, task := some t }

/-! ### WellFormed refuses an ill-formed term of each check -/

theorem test_wf_klen : (Instr.init 256 16).wellFormed = false := by decide
theorem test_wf_nlen : (Instr.init 32 256).wellFormed = false := by decide
theorem test_wf_len : (Instr.xorks (2 ^ 28)).wellFormed = false := by decide
theorem test_wf_limits :
    (Instr.init 255 255).wellFormed = true ∧ (Instr.xorks (2 ^ 28 - 1)).wellFormed = true := by decide

/-! ### Decoding, each word written out from the format tables of 30 R61 and R68 -/

/-- Format I: op 0001, reserved 000000000000, klen 00100000, nlen 00010000. -/
theorem test_decode_init :
    decodeWord 0b00010000000000000010000000010000#32 = .ok (.init 32 16) := by decide
/-- Format Z: op 0010, reserved 0. -/
theorem test_decode_reset :
    decodeWord 0b00100000000000000000000000000000#32 = .ok .reset := by decide
/-- Format Z: op 0011, reserved 0. -/
theorem test_decode_genblock :
    decodeWord 0b00110000000000000000000000000000#32 = .ok .genblock := by decide
/-- Format X: op 0100, len 0000000000000000000001000110 (70). -/
theorem test_decode_xorks :
    decodeWord 0b01000000000000000000000001000110#32 = .ok (.xorks 70) := by decide
/-- Format P: par 0 and par 1. -/
theorem test_decode_parity :
    decode (.parity 0#1) = .ok .rndE ∧ decode (.parity 1#1) = .ok .rndO := by decide
/-- V59 to V63: words that are no command. -/
theorem test_decode_illegal :
    decodeWord 0x00000000#32 = .error (.undefinedOp 0) ∧
    decodeWord 0x50000000#32 = .error (.undefinedOp 5) ∧
    decodeWord 0x20000001#32 = .error (.reservedBits 2) ∧
    decodeWord 0x10012010#32 = .error (.reservedBits 1) ∧
    decodeWord 0xFFFFFFFF#32 = .error (.undefinedOp 15) := by decide
/-- The table's numbering: one-bit rows in one byte, command words in four. -/
theorem test_decode_table :
    decodeTableWord 8 0 = some .rndE ∧ decodeTableWord 8 1 = some .rndO ∧
    decodeTableWord 32 0x10000000 = some (.init 0 0) ∧
    decodeTableWord 32 0x30000000 = some .genblock ∧ decodeTableWord 32 0 = none := by decide

/-! ### The vectors of spec/95_test_vectors.md -/

/-- V3, V5, V6. -/
theorem test_rotr :
    rotr 0x0000000000000001 27 = 0x0000002000000000 ∧
    rotr 0xF0F1F2F3F4F5F6F7 57 = 0x78F979FA7AFB7BF8 ∧
    rotr 0x8000000000000000 5 = 0x0400000000000000 := by decide
/-- V7, V8. -/
theorem test_codec :
    b2w [0x01, 0x23, 0x45, 0x67, 0x89, 0xAB, 0xCD, 0xEF] = 0x0123456789ABCDEF ∧
    w2b 0xF0F1F2F3F4F5F6F7 = [0xF0, 0xF1, 0xF2, 0xF3, 0xF4, 0xF5, 0xF6, 0xF7] := by decide
/-- V14, `RND.E`: carries in every lane. -/
theorem test_rndE_carries :
    (after (exec .rndE { State.reset with ms := #v[0x0123456789ABCDEF, 0xFEDCBA9876543210,
      0x0F1E2D3C4B5A6978, 0x8796A5B4C3D2E1F0, 0xDEADBEEFCAFEBABE, 0x0000000000000001,
      0x8000000000000000, 0xFFFFFFFFFFFFFFFF] })).ms =
    #v[0xA920881A80A2A091, 0xA61DD3693CB42DC2, 0x5048C9586067E858, 0x59CD243DB2EA41D3,
      0x7ED66713F546DCC4, 0x00000000BFFFFFFF, 0x8000000001800000, 0xB35B3B97B44C2C0F] := by
  decide +kernel
/-- V15, `RND.E`: wrap-around. -/
theorem test_rndE_wraps :
    (after (exec .rndE { State.reset with ms := #v[0xFFFFFFFFFFFFFFFF, 1, 0, 0xFFFFFFFFFFFFFFFF,
      0, 0, 0, 0] })).ms =
    #v[0, 0x000000007FFFFFFF, 0xFFFFFFFFFFFFFFFF, 1, 0, 0, 0, 0x0000000001000000] := by
  decide +kernel
/-- V14, `RND.O`: carries in every lane. -/
theorem test_rndO_carries :
    (after (exec .rndO { State.reset with ms := #v[0x0123456789ABCDEF, 0xFEDCBA9876543210,
      0x0F1E2D3C4B5A6978, 0x8796A5B4C3D2E1F0, 0xDEADBEEFCAFEBABE, 0x0000000000000001,
      0x8000000000000000, 0xFFFFFFFFFFFFFFFF] })).ms =
    #v[0xFFFFFFFFFFFFFEFE, 0x3BF2BFAEAFF7AB6F, 0xD1B5D26A4AA6C269, 0x0F1E2D3C4B5A6977,
      0xB99530AA67C35B13, 0x20FEDCBA98765432, 0xD1A32CE74956B093, 0xFFFFE00000000000] := by
  decide +kernel
/-- V12, `RND.O`: `s[i] = i`. -/
theorem test_rndO_indices :
    (after (exec .rndO { State.reset with ms := #v[0, 1, 2, 3, 4, 5, 6, 7] })).ms =
    #v[0x207, 0x400006, 0x203, 0x400002, 0x1000000000000000, 0x400000000001,
      0x1000000000000004, 0x400000000005] := by
  decide +kernel
/-- V50. -/
theorem test_init_installs :
    let t := after (exec (.init 32 16) (State.reset.offerPayload (bytes 0 48)))
    t.key = keyedState.key ∧ t.nonce = keyedState.nonce ∧ t.keyed = true ∧ t.port.rsp = [.ok] := by
  decide +kernel
/-- V52: `nlen = 17` on a keyed unit with `ctr = 2`. -/
theorem test_init_wrong_length :
    let t := after (exec (.init 32 17) (State.offerPayload (bytes 0 49) { keyedState with ctr := 2 }))
    t.key = keyedState.key ∧ t.ctr = 2 ∧ t.keyed = true ∧ t.port.rsp = [.lengthError] ∧
      t.port.din = [] := by
  decide +kernel
/-- V64. -/
theorem test_reset_clears :
    let t := after (exec .reset { keyedState with ctr := 7 })
    t.ctr = 0 ∧ t.keyed = true ∧ t.port.rsp = [.ok] := by decide +kernel
/-- V58. -/
theorem test_reset_unkeyed :
    let t := after (exec .reset State.reset)
    t.ctr = 0 ∧ t.keyed = false ∧ t.port.rsp = [.ok] := by decide +kernel
/-- V30. -/
theorem test_genblock_zero_key :
    let t := after (exec .genblock zeroKeyed)
    t.ms = #v[0xB39B1C702C51BCC9, 0x3C92BC25142763F1, 0x43E5341FC8FB9641, 0x3CBA50DD190FD84A,
      0x50909FC69F2C7CF8, 0xC5B8C5770C04A509, 0xB83A0ED156D06369, 0xBE8FC642D4C5A3D2] ∧
    t.ctr = 1 ∧ t.port.dout.take 4 = [0xB3, 0x9B, 0x1C, 0x70] := by
  decide +kernel
/-- V33: the counter wraps. -/
theorem test_genblock_counter_wraps :
    let t := after (exec .genblock { zeroKeyed with ctr := 0xFFFFFFFFFFFFFFFF })
    t.ms[0] = 0x7D736EBC6DFEEFD4 ∧ t.ctr = 0 := by
  decide +kernel
/-- V42 ("hello"), which also depends on decisions D8 and D9. -/
theorem test_xorks_hello :
    let t := after (exec (.xorks 5) (keyedState.offerPayload [0x68, 0x65, 0x6C, 0x6C, 0x6F]))
    t.port.dout = [0xBB, 0xEF, 0xEC, 0xB8, 0x5A] ∧ t.ctr = 1 := by
  decide +kernel
/-- V43: the last six of 70 bytes come from the second block. -/
theorem test_xorks_two_chunks :
    let t := after (exec (.xorks 70) (keyedState.offerPayload (bytes 0 70)))
    t.port.dout.drop 64 = [0xDD, 0x66, 0xD0, 0x33, 0xE4, 0x43] ∧ t.ctr = 2 := by
  decide +kernel
/-- P3 line 3: an illegal word through `step`. -/
theorem test_step_illegal :
    let t := after (step (keyedState.offerCommand 0x70000000#32))
    t.port.rsp = [.illegalCommand] ∧ t.port.cmd = [] ∧ t.busy = false := by
  decide +kernel
/-- V55 through `step`. -/
theorem test_step_not_keyed :
    (after (step (State.reset.withFetchWord 32 0x30000000))).port.rsp = [.notKeyed] := by
  decide +kernel
/-- 42 R105, example: round 0 of the all-zero key is the first micro-operation after the load. -/
theorem test_step_round_zero :
    (after (step { midBlock 0 with ms := #v[0xF0F1F2F3F4F5F6F7, 0, 0, 0, 0, 0, 0, 0] })).ms =
    #v[0, 0, 0x8FB0D1F213345575, 0x78F979FA7AFB7BF8, 0, 0, 0, 0] := by
  decide +kernel
/-- 30 R72: the encoding of `XORKS 68656C6C6F` (P3 line 4). -/
theorem test_line_encoding :
    (Line.command (.xorks [0x68, 0x65, 0x6C, 0x6C, 0x6F])).map HostCommand.hex =
      some "4000000568656C6C6F".toList := by
  decide +kernel

/-! ### Witnesses: states and operands that meet the hypotheses of the obligations -/

theorem witness_DecodeEncodeRoundTrip : (Instr.xorks 268435455).wellFormed = true := by decide
theorem witness_LegalWordIsItsOwnEncoding : decodeWord 0x1000FFFF#32 = .ok (.init 255 255) := by
  decide
theorem witness_LineCommandIsFramed :
    (Line.init (bytes 0 32) (bytes 32 16)).command = some ⟨0x10002010#32, bytes 0 48⟩ := by
  decide +kernel
theorem witness_LongBufferPieces :
    0 < 64 ∧ (piecesOf 64 (bytes 0 70).length (bytes 0 70)).length = 2 := by decide +kernel
theorem witness_RotrMovesBitsRight : (0 < 1 ∧ 1 < 64 ∧ 0 < 64) ∧ (0 < 63 ∧ 63 < 64) := by decide
theorem witness_W2bByteValue : 0 < 8 ∧ 7 < 8 := by decide
theorem witness_WordCodecRoundTrip : (bytes 250 8).length = 8 := by decide
theorem witness_BufferCodecRoundTrip : (bytes 0 32).length = 8 * 4 := by decide
theorem witness_MixedWidthView : (bytes 0 48).length = 48 := by decide
theorem witness_RoundHalvesStayApart :
    (let s : Words 8 := #v[1, 2, 3, 4, 5, 6, 7, 8]; let t : Words 8 := #v[1, 2, 3, 4, 0, 0, 0, 0]
     s[0] = t[0] ∧ s[1] = t[1] ∧ s[2] = t[2] ∧ s[3] = t[3] ∧ s ≠ t) ∧
    (let s : Words 8 := #v[1, 2, 3, 4, 5, 6, 7, 8]; let t : Words 8 := #v[0, 0, 0, 0, 5, 6, 7, 8]
     s[4] = t[4] ∧ s[5] = t[5] ∧ s[6] = t[6] ∧ s[7] = t[7] ∧ s ≠ t) := by decide
theorem witness_StateLoadPlacesEveryWord :
    initialState keyedState.key keyedState.nonce 5 =
      initialState keyedState.key keyedState.nonce 5 := by decide
theorem witness_InitInstallsKeyAndNonce :
    let s := State.reset.offerPayload (bytes 0 48)
    48 ≤ s.port.din.length ∧ s.port.rspReady = true := by decide
theorem witness_ResetClearsCounterOnly : keyedState.port.rspReady = true := by decide
theorem witness_GenblockResult :
    keyedState.keyed = true ∧ keyedState.port.doutReady = true ∧ keyedState.port.rspReady = true := by
  decide
theorem witness_XorksResult :
    (let s := keyedState.offerPayload (bytes 0 65)
     s.keyed = true ∧ 65 ≤ s.port.din.length ∧ (65 = 0 ∨ s.port.doutReady = true) ∧
       s.port.rspReady = true) ∧
    (let s := keyedState.setDoutReady false
     s.keyed = true ∧ 0 ≤ s.port.din.length ∧ (0 = 0 ∨ s.port.doutReady = true) ∧
       s.port.rspReady = true) := by decide
theorem witness_XorksOfNothing :
    keyedState.port.rspReady = true ∧ State.reset.port.rspReady = true := by decide
theorem witness_ErrorsChangeNothing_init :
    let s := keyedState.offerPayload (bytes 0 48)
    ¬(32 = 32 ∧ 15 = 16) ∧ 32 + 15 ≤ s.port.din.length ∧ s.port.rspReady = true := by decide
theorem witness_ErrorsChangeNothing_unkeyed :
    let s := State.reset.offerPayload (bytes 0 5)
    s.keyed = false ∧ 5 ≤ s.port.din.length ∧ s.port.rspReady = true := by decide
theorem witness_UnservedCommandIsAccepted :
    (keyedState.port.din.length < 32 + 16 ∨ keyedState.port.rspReady = false) ∧
    (keyedState.setRspReady false).port.rspReady = false ∧
    (keyedState.port.din.length < 1 ∨ keyedState.port.rspReady = false) ∧
    ((keyedState.setDoutReady false).keyed = true ∧ 0 < 1 ∧
      (keyedState.setDoutReady false).port.doutReady = false) := by decide
theorem keyedState_idle : keyedState.Idle := by constructor <;> decide
theorem witness_StepRunsTheDecodedInstruction_command :
    let s := keyedState.offerCommand 0x20000000#32
    s.Idle ∧ s.port.cmd = [0x20000000#32] ∧ decodeWord 0x20000000#32 = .ok .reset := by
  refine ⟨by constructor <;> decide, by decide, by decide⟩
theorem witness_StepRunsTheDecodedInstruction_round :
    (midBlock 31).port.rst = false ∧ (midBlock 31).phase = .gen ∧
      exec (microOp (midBlock 31).rnd) (midBlock 31) = .next ((midBlock 31).roundStep .odd) :=
  ⟨rfl, rfl, rfl⟩
theorem witness_IllegalWordChangesNothing :
    let s := keyedState.offerCommand 0x10012010#32
    s.Idle ∧ s.port.cmd = [0x10012010#32] ∧
      (∀ row ∈ matchMask, selects 0x10012010#32 row = false) ∧ s.port.rspReady = true := by
  refine ⟨by constructor <;> decide, by decide, by simp [matchMask, selects], by decide⟩
/-- The illegal word waits where the host does not take the response. -/
theorem witness_IllegalWordChangesNothing_waits :
    let s := (keyedState.offerCommand 0x10012010#32).setRspReady false
    s.Idle ∧ s.port.cmd = [0x10012010#32] ∧ s.port.rspReady = false ∧
      (after (step s)).task = some (.discard 0 .illegalCommand) := by
  refine ⟨by constructor <;> decide, by decide, by decide, by decide +kernel⟩
theorem witness_HardwareResetWins : (midBlock 7).assertRst.port.rst = true := by decide
theorem witness_WaitingChangesNothing_command :
    let s := withTask (.takeSrc 0 70 3 [])
    s.port.rst = false ∧ s.phase = .idle ∧ s.task = some (.takeSrc 0 70 3 []) ∧
      (Task.takeSrc 0 70 3 []).blocked s.port = true := by decide
theorem witness_WaitingChangesNothing_idle : keyedState.Idle ∧ keyedState.port.cmd = [] :=
  ⟨keyedState_idle, by decide⟩
theorem witness_BlockMicroSequence :
    let s := withTask .genblock
    s.port.rst = false ∧ s.phase = .idle ∧ s.task = some .genblock ∧ 0 < 32 ∧ 31 < 32 := by decide
theorem witness_TransfersAreNeverUndone : step keyedState = .next keyedState := by rfl
theorem witness_CommandAcceptedOnlyWhenIdle :
    ∃ t, step (keyedState.offerCommand 0#32) = .next t ∧
      t.port.cmd ≠ (keyedState.offerCommand 0#32).port.cmd := ⟨_, rfl, by decide +kernel⟩
theorem withTask_genblock_inv : (withTask .genblock).Inv := by constructor <;> decide
theorem witness_OneResponsePerCommand :
    (withTask (.respond .ok)).Inv ∧ (withTask (.respond .ok)).port.rst = false ∧
      step (withTask (.respond .ok)) = .next ((withTask (.respond .ok)).answer .ok) :=
  ⟨by constructor <;> decide, rfl, rfl⟩
/-- A served `INIT`, the last micro-step of an unserved one, and a hardware reset change the key. -/
theorem witness_KeyWrittenOnlyByInitOrReset :
    (∃ t, step ((State.reset.offerPayload (bytes 0 48)).offerCommand 0x10002010#32) = .next t ∧
      t.key ≠ State.reset.key) ∧
    (∃ t, step { State.reset with busy := true, task := some (.takeInit 0 (bytes 0 48)) } = .next t ∧
      t.key ≠ State.reset.key) ∧
    (∃ t, step keyedState.assertRst = .next t ∧ t.key ≠ keyedState.key) :=
  ⟨⟨_, rfl, by decide +kernel⟩, ⟨_, rfl, by decide +kernel⟩, ⟨_, rfl, by decide +kernel⟩⟩
/-- Both ways in which a step completes a successful `INIT`. -/
theorem witness_completesInit :
    ((State.reset.offerPayload (bytes 0 48)).offerCommand 0x10002010#32).completesInit (bytes 0 48) ∧
    State.completesInit { State.reset with busy := true, task := some (.takeInit 0 (bytes 0 48)) }
      (bytes 0 48) :=
  ⟨.inr ⟨by constructor <;> decide, by decide, by decide, by decide, by decide⟩,
    .inl ⟨by decide, by decide, by decide⟩⟩
theorem witness_KeyedSetByInitClearedByReset :
    (∃ t, step keyedState.assertRst = .next t ∧ keyedState.keyed = true ∧ t.keyed = false) ∧
    (∃ t, step ((State.reset.offerPayload (bytes 0 48)).offerCommand 0x10002010#32) = .next t ∧
      t.keyed = true) :=
  ⟨⟨_, rfl, by decide +kernel⟩, ⟨_, rfl, by decide +kernel⟩⟩
theorem witness_CounterLifecycle :
    (midBlock 31).port.rst = false ∧ (∃ t, step (midBlock 31) = .next t ∧ t.ctr = 1) ∧
    (∃ t, step ((keyedState.offerPayload (bytes 0 65)).offerCommand 0x40000041#32) = .next t ∧
      t.ctr = 2) ∧
    (∃ t, step (keyedState.offerCommand 0x30000000#32) = .next t ∧ t.ctr = 1) ∧
    (∃ t, step (State.offerCommand 0x20000000#32 { keyedState with ctr := 7 }) = .next t ∧ t.ctr = 0) :=
  ⟨rfl, ⟨_, rfl, by decide +kernel⟩, ⟨_, rfl, by decide +kernel⟩, ⟨_, rfl, by decide +kernel⟩,
    ⟨_, rfl, by decide +kernel⟩⟩
theorem witness_DeadStateIsNeverWritten :
    (midBlock 3).port.rst = false ∧ step (midBlock 3) = .next ((midBlock 3).roundStep .odd) :=
  ⟨rfl, rfl⟩
theorem witness_SequencerTransitions :
    (step (withTask .genblock) = .next (withTask .genblock).stateLoad ∧
      (withTask .genblock).stateLoad.phase = .gen) ∧
    (∃ t, step (midBlock 31) = .next t ∧ (midBlock 31).phase = .gen ∧ t.phase = .idle) :=
  ⟨⟨rfl, rfl⟩, ⟨_, rfl, rfl, by decide +kernel⟩⟩
theorem witness_UnkeyedUnitIsSilent :
    State.reset.Inv ∧ State.reset.keyed = false ∧ step State.reset = .next State.reset :=
  ⟨by constructor <;> decide, rfl, rfl⟩
theorem witness_CounterCountsBlocks :
    keyedState.keyed = true ∧ keyedState.ctr = 0 ∧ keyedState.port.doutReady = true ∧
      keyedState.port.rspReady = true := by decide
theorem witness_GenblockIsXorksOfZeros :
    zeroKeyed.keyed = true ∧ zeroKeyed.port.doutReady = true ∧ zeroKeyed.port.rspReady = true := by
  decide
theorem witness_EncryptThenDecrypt :
    let s := keyedState.offerPayload (bytes 0 70)
    s.keyed = true ∧ s.port.din = bytes 0 70 ∧ s.port.doutReady = true ∧ s.port.rspReady = true := by
  decide
theorem witness_OutputOfAPrefixIsAPrefix :
    keyedState.keyed = true ∧ keyedState.port.doutReady = true ∧ keyedState.port.rspReady = true := by
  decide
theorem witness_SplitAtBlockBoundary :
    let s := keyedState.offerPayload (bytes 0 70)
    s.keyed = true ∧ 64 ≤ 70 ∧ (64 % 64 = 0 ∨ 64 = 70) ∧ 70 ≤ s.port.din.length ∧
      s.port.doutReady = true ∧ s.port.rspReady = true := by decide
theorem witness_StepKeepsTheInvariant :
    (withTask .genblock).Inv ∧ step (withTask .genblock) = .next (withTask .genblock).stateLoad :=
  ⟨withTask_genblock_inv, rfl⟩
theorem witness_MicroStepsRefineTheCommand :
    let s := keyedState.offerPayload (bytes 0 70)
    s.Idle ∧ payloadLen (.xorks 70) ≤ s.port.din.length ∧ s.port.doutReady = true ∧
      s.port.rspReady = true := by
  refine ⟨by constructor <;> decide, by decide, by decide, by decide⟩
theorem witness_FairHostSeesEveryCommandEnd :
    let s := (withTask (.takeSrc 64 70 6 [])).offerPayload (bytes 0 6)
    s.Inv ∧ s.port.rst = false ∧ s.task = some (.takeSrc 64 70 6 []) ∧
      (Task.takeSrc 64 70 6 []).owed ≤ s.port.din.length ∧ s.port.doutReady = true ∧
      s.port.rspReady = true := by
  refine ⟨by constructor <;> decide, by decide, by decide, by decide, by decide, by decide⟩
/-- Two states that differ in `ms`, `ns` and `mac` and are known alike. -/
theorem witness_HiddenStateIsNeverRead :
    keyedState.known = { keyedState with
      ms := #v[1, 2, 3, 4, 5, 6, 7, 8], ns := #v[8, 7, 6, 5, 4, 3, 2, 1], mac := #v[9, 9] }.known ∧
    step keyedState = .next keyedState := ⟨by decide +kernel, rfl⟩
/-- Two states with different keys, in the middle of a block, and one shape. -/
theorem witness_ControlIgnoresData :
    (midBlock 5).shape = { midBlock 5 with key := #v[0, 0, 0, 0], ms := #v[1, 2, 3, 4, 5, 6, 7, 8] }.shape ∧
    step (midBlock 5) = .next ((midBlock 5).roundStep .odd) := ⟨by decide +kernel, rfl⟩
/-- A byte taken, a byte handed over, a response handed over; a response that waits. -/
theorem witness_HandshakeOutputsMatchTransfers :
    (let s := (withTask (.takeInit 48 [])).offerPayload [5]
     s.Inv ∧ s.port.rst = false ∧ s.dinReady = true ∧ (after (step s)).port.din = []) ∧
    (let s := withTask (.emit [7, 8] none)
     s.Inv ∧ s.doutOffer = some 7 ∧ (after (step s)).port.dout = [7]) ∧
    (let s := withTask (.respond .lengthError)
     s.Inv ∧ s.rspOffer = some 1 ∧ (after (step s)).port.rsp = [.lengthError]) ∧
    (let s := (withTask (.respond .ok)).setRspReady false
     s.Inv ∧ s.rspOffer = some 0 ∧ step s = .next s) := by
  refine ⟨⟨?_, ?_⟩, ⟨?_, ?_⟩, ⟨?_, ?_⟩, ⟨?_, rfl, rfl⟩⟩
  all_goals (constructor <;> decide)
/-- An `INIT` whose payload comes after its word, in two pieces, to a host that takes the response
late; the unit steps in between. -/
theorem witness_AnyHostScheduleGivesTheCommand :
    let s := State.reset.setRspReady false
    let moves : List Move := [.unitStep, .offer (bytes 0 40), .unitStep, .unitStep, .doutReady false,
      .offer (bytes 40 8), .unitStep]
    s.Idle ∧ s.port.cmd = [] ∧ exec (.init 32 16) s = .next s.beginInit ∧
      payloadLen (.init 32 16) ≤ (s.port.din ++ moves.flatMap Move.offered).length := by
  refine ⟨by constructor <;> decide, by decide, rfl, by decide⟩
/-- An `XORKS` of two chunks whose payload comes after its word, to a host that stalls the output and
then takes it. -/
theorem witness_AnyHostScheduleGivesTheCommand_xorks :
    let s := keyedState.setDoutReady false
    let moves : List Move := [.unitStep, .offer (bytes 0 64), .doutReady true, .unitStep,
      .offer (bytes 64 6), .doutReady false]
    s.Idle ∧ s.port.cmd = [] ∧ exec (.xorks 70) s = .next (s.accept (.chunk 0 70)) ∧
      payloadLen (.xorks 70) ≤ (s.port.din ++ moves.flatMap Move.offered).length := by
  refine ⟨by constructor <;> decide, by decide, rfl, by decide⟩
/-- A `GENBLOCK` to a host that stalls the output, and an `INIT` in error whose payload comes late. -/
theorem witness_AnyHostScheduleGivesTheCommand_others :
    (let s := keyedState.setDoutReady false
     s.Idle ∧ s.port.cmd = [] ∧ exec .genblock s = .next (s.accept .genblock) ∧
       payloadLen .genblock ≤ (s.port.din ++ [Move.unitStep].flatMap Move.offered).length) ∧
    (keyedState.Idle ∧ keyedState.port.cmd = [] ∧
      exec (.init 31 16) keyedState = .next (keyedState.accept (.discard 47 .lengthError)) ∧
      payloadLen (.init 31 16) ≤
        (keyedState.port.din ++ [Move.unitStep, .offer (bytes 0 47)].flatMap Move.offered).length) := by
  refine ⟨⟨by constructor <;> decide, by decide, rfl, by decide⟩,
    ⟨keyedState_idle, by decide, rfl, by decide⟩⟩
theorem witness_UnitsShareNothing :
    Bank.stepUnit 1 [keyedState, midBlock 4] =
      .next [keyedState, (midBlock 4).roundStep .even] := by rfl

end Sys2Proof.Tests
end

section
/-! Scope: the rotation, what a step runs, and that every way in which a host serves a command ends
in the state of the command's one-step execution (spec/00_scope.md R10, R14; 10_state.md R31;
70_reset_and_hazards.md R160, R163). -/

namespace Sys2Proof.Machine

/-! ### Rotation -/

/-- R10: the formula of `ROTR`, in numbers. -/
theorem rotr_toNat (x : Word) (n : Nat) :
    (rotr x n).toNat = (x.toNat / 2 ^ n ||| x.toNat * 2 ^ (64 - n)) % 2 ^ 64 := by
  have hlt : x.toNat / 2 ^ n < 2 ^ 64 := (Nat.div_le_self _ _).trans_lt x.isLt
  rw [Nat.or_mod_two_pow, Nat.mod_eq_of_lt hlt]
  simp [rotr, Nat.shiftRight_eq_div_pow, Nat.shiftLeft_eq]

/-- R10: every bit moves down by `n`, the lowest `n` bits come in at the top. -/
theorem rotr_getLsbD (x : Word) {n i : Nat} (h0 : 0 < n) (hn : n < 64) (hi : i < 64) :
    (rotr x n).getLsbD i = x.getLsbD ((i + n) % 64) := by
  simp only [rotr, BitVec.getLsbD_or, BitVec.getLsbD_ushiftRight, BitVec.getLsbD_shiftLeft]
  rcases Nat.lt_or_ge (i + n) 64 with h | h
  · have hlow : i < 64 - n := by omega
    rw [Nat.mod_eq_of_lt h]
    simp [hlow, Nat.add_comm]
  · have hhigh : ¬ i < 64 - n := by omega
    have hwrap : (i + n) % 64 = i - (64 - n) := by omega
    have hout : x.getLsbD (n + i) = false := BitVec.getLsbD_of_ge x _ (show 64 ≤ n + i by omega)
    simp [hi, hhigh, hwrap, hout]

/-- R5, R69: the rotation amounts of the two schedules. -/
theorem schedule_rot_mem (p : Parity) :
    ∀ r ∈ schedule p, r.rot ∈ [5, 18, 27, 33, 40, 42, 56, 57] := by
  cases p <;> decide

/-- Settles O8, from the formula in numbers, the bit rule, and the rows of the schedules. -/
theorem rotrMovesBitsRight : Obligations.RotrMovesBitsRight :=
  ⟨fun x _ h0 hn => ⟨rotr_toNat x _, fun _ hi => rotr_getLsbD x h0 hn hi⟩,
    schedule_rot_mem, by decide, by decide⟩

/-! ### What a step runs -/

/-- R14, R61: an idle unit runs the command that the next offered word decodes to. -/
theorem step_of_decodes {s : State} {w : BitVec 32} {ws : List (BitVec 32)} {i : Instr}
    (hs : s.Idle) (hc : s.port.cmd = w :: ws) (hd : decodeWord w = .ok i) :
    step s = exec i (s.withCmd ws) := by
  obtain ⟨hrst, hphase, hbusy, htask⟩ := hs
  rcases step_cases s with ⟨hr, -⟩ | ⟨-, hp, -⟩ | ⟨-, hp, -⟩ | ⟨t, -, -, ht, -⟩ |
    ⟨-, -, -, hb | hn, -⟩ | ⟨w', ws', i', -, -, -, -, hc', hd', hstep⟩ |
    ⟨w', ws', e, -, -, -, -, hc', hd', -⟩
  case inr.inr.inr.inr.inr.inl =>
    obtain ⟨rfl, rfl⟩ : w = w' ∧ ws = ws' := List.cons_eq_cons.mp (hc.symm.trans hc')
    obtain rfl : i = i' := Except.ok.inj (hd.symm.trans hd')
    exact hstep
  -- every other case says that the unit is not idle, or that the word does not decode
  all_goals simp_all

theorem lastRound_iff {s : State} : s.lastRound = true ↔ s.rnd = 31 := by
  have hlast : ∀ r : BitVec 5, (r.toNat + 1 == 32) = true ↔ r = 31 := by decide
  exact hlast s.rnd

/-- R68: the micro-operation of a round index is the round of its parity. -/
theorem exec_microOp (rnd : BitVec 5) (s : State) :
    exec (microOp rnd) s = .next (s.roundStep (parityOf rnd)) := by
  rcases microOp_cases rnd with ⟨hp, hm⟩ | ⟨hp, hm⟩ <;> rw [hp, hm] <;> rfl

/-- R27, R105, R106: a step while a block is in generation. -/
theorem step_of_gen {s : State} (hr : s.port.rst = false) (hp : s.phase = .gen) :
    step s = .next (if s.rnd = 31 then (s.roundStep (parityOf s.rnd)).finishBlock
      else s.roundStep (parityOf s.rnd)) := by
  rcases step_cases s with ⟨hr', -⟩ | ⟨-, -, hl, h⟩ | ⟨-, -, hl, h⟩ | ⟨t, -, hp', -⟩ | ⟨-, hp', -⟩ |
    ⟨_, _, _, -, hp', -⟩ | ⟨_, _, _, -, hp', -⟩
  case inr.inl =>
    have hne : s.rnd ≠ 31 := fun he => by simp [lastRound_iff.mpr he] at hl
    rw [h, if_neg hne]
  case inr.inr.inl => rw [h, if_pos (lastRound_iff.mp hl)]
  -- the other cases are under reset or outside a block
  all_goals simp_all

/-- Settles O26: the command of an idle unit, and the round of a block in generation. -/
theorem stepRunsTheDecodedInstruction : Obligations.StepRunsTheDecodedInstruction := by
  refine ⟨fun s w ws i => step_of_decodes, fun s t hr hp he => ?_⟩
  obtain rfl : s.roundStep (parityOf s.rnd) = t := by simpa [exec_microOp] using he
  exact step_of_gen hr hp

/-! ### Runs of steps -/

/-- The machine gets from `s` to `t` in some number of steps. -/
def Reaches (s t : State) : Prop := ∃ k, stepTimes k s = .next t

theorem stepTimes_succ_of_step {s t : State} (h : step s = .next t) (n : Nat) :
    stepTimes (n + 1) s = stepTimes n t := by
  simp [stepTimes, h]

theorem stepTimes_add {m : Nat} {s t : State} (h : stepTimes m s = .next t) (n : Nat) :
    stepTimes (m + n) s = stepTimes n t := by
  induction m generalizing s with
  | zero =>
    obtain rfl : s = t := by simpa [stepTimes] using h
    rw [Nat.zero_add]
  | succ m ih =>
    cases hs : step s with
    | next u =>
      rw [stepTimes_succ_of_step hs] at h
      rw [Nat.succ_add, stepTimes_succ_of_step hs]
      exact ih h
    | fault f => simp [stepTimes, hs] at h
    | refused r => simp [stepTimes, hs] at h

theorem stepTimes_of_stuck {s : State} (h : step s = .next s) (n : Nat) :
    stepTimes n s = .next s := by
  induction n with
  | zero => rfl
  | succ n ih => rw [stepTimes_succ_of_step h, ih]

theorem Reaches.refl (s : State) : Reaches s s := ⟨0, rfl⟩

theorem Reaches.trans {s t u : State} : Reaches s t → Reaches t u → Reaches s u
  | ⟨m, hm⟩, ⟨n, hn⟩ => ⟨m + n, (stepTimes_add hm n).trans hn⟩

theorem Reaches.of_step {s t : State} (h : step s = .next t) : Reaches s t :=
  ⟨1, stepTimes_succ_of_step h 0⟩

theorem Reaches.head {s t u : State} (h : step s = .next t) (htu : Reaches t u) : Reaches s u :=
  (Reaches.of_step h).trans htu

/-- A run that ends in a state no step leaves passes through every state the machine reaches. -/
theorem Reaches.of_stuck {s t u : State} (hu : step u = .next u) :
    Reaches s t → Reaches s u → Reaches t u
  | ⟨m, hm⟩, ⟨n, hn⟩ => by
    rcases Nat.le_total m n with h | h
    · obtain ⟨d, rfl⟩ := Nat.exists_eq_add_of_le h
      exact ⟨d, (stepTimes_add hm d).symm.trans hn⟩
    · obtain ⟨d, rfl⟩ := Nat.exists_eq_add_of_le h
      have hut : u = t := by
        simpa [stepTimes_add hn, stepTimes_of_stuck hu] using hm
      exact hut ▸ .refl u

/-! ### Changing the interface of a unit -/

/-- The state with its interface changed by `f`, every register left as it is. -/
def State.onPort (f : Port → Port) (s : State) : State := { s with port := f s.port }

/-- R66: taking payload, as a change of the interface. -/
def Port.consume (n : Nat) (p : Port) : Port := { p with din := p.din.drop n }

/-- R50 (d): handing output bytes over, as a change of the interface. -/
def Port.deliver (bytes : List Byte) (p : Port) : Port := { p with dout := p.dout ++ bytes }

/-- R163: the host offers the rest of the payload and takes outputs and responses from now on. -/
def Port.serve (bytes : List Byte) (p : Port) : Port :=
  { p with din := p.din ++ bytes, doutReady := true, rspReady := true }

theorem Port.deliver_consume (n : Nat) (bytes : List Byte) (p : Port) :
    (p.consume n).deliver bytes = (p.deliver bytes).consume n := rfl

theorem Port.deliver_serve (D bytes : List Byte) (p : Port) :
    (p.serve D).deliver bytes = (p.deliver bytes).serve D := rfl

/-- R163: what the host does to the unit to serve the rest of a command. -/
def State.serve (bytes : List Byte) (s : State) : State := s.onPort (Port.serve bytes)

theorem State.serve_eq (D : List Byte) (s : State) : s.serve D = (s.offerPayload D).takesAll := rfl

@[simp] theorem State.serve_keyed (D : List Byte) (s : State) : (s.serve D).keyed = s.keyed := rfl
@[simp] theorem State.serve_phase (D : List Byte) (s : State) : (s.serve D).phase = s.phase := rfl
@[simp] theorem State.serve_rnd (D : List Byte) (s : State) : (s.serve D).rnd = s.rnd := rfl
@[simp] theorem State.serve_rst (D : List Byte) (s : State) :
    (s.serve D).port.rst = s.port.rst := rfl
@[simp] theorem State.serve_cmd (D : List Byte) (s : State) :
    (s.serve D).port.cmd = s.port.cmd := rfl
@[simp] theorem State.serve_din (D : List Byte) (s : State) :
    (s.serve D).port.din = s.port.din ++ D := rfl
@[simp] theorem State.serve_doutReady (D : List Byte) (s : State) :
    (s.serve D).port.doutReady = true := rfl
@[simp] theorem State.serve_rspReady (D : List Byte) (s : State) :
    (s.serve D).port.rspReady = true := rfl

@[simp] theorem State.blockBytes_onPort (f : Port → Port) (s : State) :
    (s.onPort f).blockBytes = s.blockBytes := rfl

/-- R105: rounds neither read nor write the interface. -/
theorem rounds_onPort (f : Port → Port) (k : Nat) (s : State) :
    (s.onPort f).rounds k = (s.rounds k).onPort f := by
  induction k generalizing s with
  | zero => rfl
  | succ k ih => exact ih (s.roundStep (parityOf s.rnd))

/-- R104 to R106: block generation neither reads nor writes the interface. -/
theorem genBlock_onPort (f : Port → Port) (s : State) :
    (s.onPort f).genBlock = s.genBlock.onPort f := by
  have hfinish : ∀ u : State, (u.onPort f).finish = u.finish.onPort f := fun _ => rfl
  have hload : (s.onPort f).stateLoad = s.stateLoad.onPort f := rfl
  simp only [State.genBlock, hload, rounds_onPort, hfinish]

theorem deliver_onPort {f : Port → Port}
    (hf : ∀ bytes p, (f p).deliver bytes = f (p.deliver bytes)) (bytes : List Byte) (s : State) :
    (s.onPort f).deliver bytes = (s.deliver bytes).onPort f :=
  congrArg (fun p => { s with port := p }) (hf bytes s.port)

/-- R120: one round of the chunk loop. -/
theorem applyChunks_succ (k : Nat) (src : List Byte) (s : State) :
    s.applyChunks (k + 1) src =
      (s.genBlock.deliver (xorBytes (src.take 64) s.genBlock.blockBytes)).applyChunks k
        (src.drop 64) := by
  rw [State.applyChunks]

/-- R120: the chunk loop uses the interface for output only. -/
theorem applyChunks_onPort {f : Port → Port}
    (hf : ∀ bytes p, (f p).deliver bytes = f (p.deliver bytes))
    (k : Nat) (src : List Byte) (s : State) :
    (s.onPort f).applyChunks k src = (s.applyChunks k src).onPort f := by
  induction k generalizing src s with
  | zero => rfl
  | succ k ih =>
    rw [applyChunks_succ, applyChunks_succ, genBlock_onPort, State.blockBytes_onPort,
      deliver_onPort hf, ih]

theorem applyChunks_consume (n k : Nat) (src : List Byte) (s : State) :
    (s.consume n).applyChunks k src = (s.applyChunks k src).consume n :=
  applyChunks_onPort (Port.deliver_consume n) k src s

theorem genBlock_serve (D : List Byte) (s : State) : (s.serve D).genBlock = s.genBlock.serve D :=
  genBlock_onPort (Port.serve D) s

theorem applyChunks_serve (D : List Byte) (k : Nat) (src : List Byte) (s : State) :
    (s.serve D).applyChunks k src = (s.applyChunks k src).serve D :=
  applyChunks_onPort (Port.deliver_serve D) k src s

theorem State.consume_consume (m n : Nat) (s : State) :
    (s.consume m).consume n = s.consume (m + n) := by
  simp [State.consume, List.drop_drop]

/-- Bytes that the host offers behind the payload do not matter to what takes the payload. -/
theorem State.consume_serve {n : Nat} {s : State} (h : n ≤ s.port.din.length) (D : List Byte) :
    (s.serve D).consume n = (s.consume n).serve D := by
  simp [State.consume, State.serve, State.onPort, Port.serve, List.drop_append_of_le_length h]

/-! ### The micro-steps of a command whose host serves it -/

/-- R160, R163: no reset, no block in generation, and the host takes outputs and responses. -/
structure State.Attended (s : State) : Prop where
  rst       : s.port.rst = false
  phase     : s.phase = .idle
  doutReady : s.port.doutReady = true
  rspReady  : s.port.rspReady = true

theorem State.Attended.consume {s : State} (h : s.Attended) (n : Nat) : (s.consume n).Attended :=
  ⟨h.rst, h.phase, h.doutReady, h.rspReady⟩

theorem State.Attended.deliver {s : State} (h : s.Attended) (bytes : List Byte) :
    (s.deliver bytes).Attended := ⟨h.rst, h.phase, h.doutReady, h.rspReady⟩

theorem State.Attended.install {s : State} (h : s.Attended) (payload : List Byte) :
    (s.install payload).Attended := ⟨h.rst, h.phase, h.doutReady, h.rspReady⟩

theorem State.Attended.genBlock {s : State} (h : s.Attended) : s.genBlock.Attended :=
  ⟨by simp [h.rst], genBlock_phase s, by simp [h.doutReady], by simp [h.rspReady]⟩

theorem State.Idle.serve {s : State} (h : s.Idle) (D : List Byte) : (s.serve D).Idle :=
  ⟨h.rst, h.phase, h.busy, h.task⟩

theorem State.Idle.serve_attended {s : State} (h : s.Idle) (D : List Byte) : (s.serve D).Attended :=
  ⟨h.rst, h.phase, rfl, rfl⟩

/-- R31: outside the rounds a step is one micro-step of the command in progress. -/
theorem step_of_task {s : State} {t : Task} (hr : s.port.rst = false) (hp : s.phase = .idle)
    (ht : s.task = some t) : step s = .next (s.progress t) :=
  step_of_goes (by simp [State.fetch, hr, hp, ht])

theorem State.Attended.step {s : State} (h : s.Attended) (t : Task) :
    step (s.accept t) = .next ((s.accept t).progress t) :=
  step_of_task h.rst h.phase rfl

/-- R163: the response that the host takes. -/
theorem reaches_respond {s : State} (h : s.Attended) (r : Response) :
    Reaches (s.accept (.respond r)) (s.answer r) := by
  refine .of_step ((h.step _).trans ?_)
  simp only [State.progress, State.accept_port, h.rspReady, if_true]
  rfl

theorem progress_discard_cons {s : State} {b : Byte} {rest : List Byte}
    (hd : s.port.din = b :: rest) (n : Nat) (r : Response) :
    s.progress (.discard (n + 1) r) = (s.consume 1).goOn (.discard n r) := by
  simp [State.progress, State.progressDiscard, hd]

theorem progress_takeInit_cons {s : State} {b : Byte} {rest : List Byte}
    (hd : s.port.din = b :: rest) (n : Nat) (got : List Byte) :
    s.progress (.takeInit (n + 1) got) = (s.consume 1).goOn (.takeInit n (got ++ [b])) := by
  simp [State.progress, State.progressInit, hd]

theorem progress_takeSrc_cons {s : State} {b : Byte} {rest : List Byte}
    (hd : s.port.din = b :: rest) (off len n : Nat) (got : List Byte) :
    s.progress (.takeSrc off len (n + 1) got) =
      (s.consume 1).goOn (.takeSrc off len n (got ++ [b])) := by
  simp [State.progress, State.progressSrc, hd]

/-- R60, R66: a task that takes its payload byte by byte takes all of it. -/
theorem reaches_take {task : Nat → List Byte → Task}
    (htask : ∀ (n : Nat) (got : List Byte) (b : Byte) (rest : List Byte) (s : State),
      s.port.din = b :: rest →
        s.progress (task (n + 1) got) = (s.consume 1).goOn (task n (got ++ [b])))
    {n : Nat} {s : State} (h : s.Attended) (hn : n ≤ s.port.din.length) (got : List Byte) :
    Reaches (s.accept (task n got))
      ((s.consume n).accept (task 0 (got ++ s.port.din.take n))) := by
  induction n generalizing s got with
  | zero => simpa [State.consume] using Reaches.refl _
  | succ n ih =>
    obtain ⟨b, rest, hd⟩ := List.exists_cons_of_length_pos (Nat.lt_of_lt_of_le n.succ_pos hn)
    have hstep : step (s.accept (task (n + 1) got)) =
        .next ((s.consume 1).accept (task n (got ++ [b]))) := by
      rw [h.step, htask n got b rest (s.accept _) hd]
      rfl
    have hrest := ih (h.consume 1) (by rw [State.consume_din, List.length_drop]; omega) (got ++ [b])
    rw [State.consume_consume, Nat.add_comm] at hrest
    refine .head hstep ?_
    simpa [hd] using hrest

/-- R66, R138: a command in error discards its payload and answers. -/
theorem reaches_discard (r : Response) {n : Nat} {s : State} (h : s.Attended)
    (hn : n ≤ s.port.din.length) : Reaches (s.accept (.discard n r)) (s.raise r n) := by
  have htake := reaches_take (task := fun left _ => .discard left r)
    (fun n _ _ _ _ hd => progress_discard_cons hd n r) h hn []
  exact htake.trans (.head ((h.consume n).step _) (reaches_respond (h.consume n) r))

/-- R62, R101: `INIT` takes its payload, writes its registers and answers. -/
theorem reaches_init {n : Nat} {s : State} (h : s.Attended) (hn : n ≤ s.port.din.length) :
    Reaches (s.accept (.takeInit n []))
      (((s.install (s.port.din.take n)).consume n).answer .ok) := by
  have htake := reaches_take (task := .takeInit)
    (fun n got _ _ _ hd => progress_takeInit_cons hd n got) h hn []
  have hdone := (h.install (s.port.din.take n)).consume n
  exact htake.trans (.head ((h.consume n).step _) (reaches_respond hdone .ok))

/-- R120: `XORKS` takes the bytes of a chunk. -/
theorem reaches_takeSrc (off len : Nat) {n : Nat} {s : State} (h : s.Attended)
    (hn : n ≤ s.port.din.length) : Reaches (s.accept (.takeSrc off len n []))
      ((s.consume n).accept (.takeSrc off len 0 (s.port.din.take n))) :=
  reaches_take (task := .takeSrc off len)
    (fun n got _ _ _ hd => progress_takeSrc_cons hd off len n got) h hn []

/-- R50 (d): the output bytes are handed over one by one. -/
theorem reaches_emit (bytes : List Byte) (resume : Option (Nat × Nat)) {s : State}
    (h : s.Attended) : Reaches (s.accept (.emit bytes resume))
      ((s.deliver bytes).accept (.emit [] resume)) := by
  induction bytes generalizing s with
  | nil => simpa [State.deliver] using Reaches.refl _
  | cons b rest ih =>
    have hstep : step (s.accept (.emit (b :: rest) resume)) =
        .next ((s.deliver [b]).accept (.emit rest resume)) := by
      rw [h.step]
      simp only [State.progress, State.progressEmit, State.accept_port, h.doutReady, if_true]
      rfl
    refine .head hstep ?_
    simpa [State.deliver] using ih (h.deliver [b])

/-! ### Block generation in micro-steps -/

theorem rounds_port (k : Nat) (s : State) : (s.rounds k).port = s.port := by
  obtain ⟨m, n, r, h⟩ := rounds_frame k s; rw [h]

theorem rounds_phase (k : Nat) (s : State) : (s.rounds k).phase = s.phase := by
  obtain ⟨m, n, r, h⟩ := rounds_frame k s; rw [h]

theorem stepTimes_succ_of_stepTimes {n : Nat} {s t : State} (h : stepTimes n s = .next t) :
    stepTimes (n + 1) s = step t := by
  rw [stepTimes_add h, stepTimes]
  cases step t <;> rfl

/-- The step of a round, for a task for which a block is in generation. -/
theorem step_rounds {s : State} (hr : s.port.rst = false) (t : Task) (k : Nat) :
    step ((s.stateLoad.rounds k).accept t) =
      .next (if BitVec.ofNat 5 k = 31 then ((s.stateLoad.rounds (k + 1)).accept t).finishBlock
        else (s.stateLoad.rounds (k + 1)).accept t) := by
  have hrnd : ((s.stateLoad.rounds k).accept t).rnd = BitVec.ofNat 5 k := by
    rw [State.accept_rnd, rounds_rnd, State.stateLoad_rnd]
    exact BitVec.zero_add _
  have hround : ((s.stateLoad.rounds k).accept t).roundStep (parityOf (BitVec.ofNat 5 k)) =
      (s.stateLoad.rounds (k + 1)).accept t := by
    rw [rounds_succ_eq, ← hrnd]; rfl
  rw [step_of_gen (by rw [State.accept_port, rounds_port]; exact hr)
    (by rw [State.accept_phase, rounds_phase]; rfl), hrnd, hround]

/-- R105: after the load and `k` rounds, all within the block. -/
theorem stepTimes_rounds {s : State} (hr : s.port.rst = false) (t : Task) {k : Nat} (hk : k < 32) :
    stepTimes k (s.stateLoad.accept t) = .next ((s.stateLoad.rounds k).accept t) := by
  induction k with
  | zero => rfl
  | succ k ih =>
    have hne : BitVec.ofNat 5 k ≠ 31 := fun he => by
      have hval := congrArg BitVec.toNat he
      simp only [BitVec.toNat_ofNat] at hval
      change k % 32 = 31 at hval
      omega
    rw [stepTimes_succ_of_stepTimes (ih (by omega)), step_rounds hr, if_neg hne]

/-- R104 to R107: the 32 rounds and the finish do what `genBlock` does at once. -/
theorem stepTimes_block {s : State} (hr : s.port.rst = false) (t : Task) :
    stepTimes 32 (s.stateLoad.accept t) =
      .next (s.genBlock.accept (t.afterBlock s.genBlock.blockBytes)) := by
  have hfinish : ∀ u : State, (u.accept t).finishBlock =
      u.finish.accept (t.afterBlock u.finish.blockBytes) := fun _ => rfl
  rw [stepTimes_succ_of_stepTimes (stepTimes_rounds hr t (by decide : 31 < 32)), step_rounds hr,
    if_pos (by decide), hfinish]
  rfl

theorem reaches_block {s : State} (h : s.Attended) (t : Task) :
    Reaches (s.stateLoad.accept t) (s.genBlock.accept (t.afterBlock s.genBlock.blockBytes)) :=
  ⟨32, stepTimes_block h.rst t⟩

theorem afterBlock_genblock (block : List Byte) :
    Task.genblock.afterBlock block = .emit block none := rfl

theorem afterBlock_chunk (off len : Nat) (block : List Byte) :
    (Task.chunk off len).afterBlock block = .takeSrc off len (min 64 (len - off)) [] := rfl

/-! ### The commands that generate blocks -/

/-- R103: the output bytes of a command and its response. -/
theorem reaches_emit_respond (bytes : List Byte) {s : State} (h : s.Attended) :
    Reaches (s.accept (.emit bytes none)) ((s.deliver bytes).answer .ok) := by
  have hout := h.deliver bytes
  exact (reaches_emit bytes none h).trans (.head (hout.step _) (reaches_respond hout .ok))

/-- R103: the micro-steps of `GENBLOCK` end where its one step ends. -/
theorem reaches_genblock {s : State} (h : s.Attended) :
    Reaches (s.accept .genblock) s.genblockNow := by
  have hload : step (s.accept .genblock) = .next (s.stateLoad.accept .genblock) := h.step _
  have hblock := reaches_block h .genblock
  rw [afterBlock_genblock] at hblock
  have hout := reaches_emit_respond s.genBlock.blockBytes h.genBlock
  rw [State.genblockNow]
  exact .head hload (hblock.trans hout)

/-- R120, R122: the bytes of a chunk come in, are combined with the block in `ms`, and go out. -/
theorem reaches_chunk_of_takeSrc {s : State} (h : s.Attended) (off len : Nat) {n : Nat}
    (hn : n ≤ s.port.din.length) :
    Reaches (s.accept (.takeSrc off len n []))
      (((s.deliver (xorBytes (s.port.din.take n) s.blockBytes)).consume n).accept
        (.chunk (off + n) len)) := by
  have hlen : (s.port.din.take n).length = n := List.length_take_of_le hn
  have hs := h.consume n
  have hcombine : step ((s.consume n).accept (.takeSrc off len 0 (s.port.din.take n))) =
      .next ((s.consume n).accept
        (.emit (xorBytes (s.port.din.take n) s.blockBytes) (some (off + n, len)))) := by
    rw [hs.step]
    simp only [State.progress, State.progressSrc, hlen]
    rfl
  have hnext := (hs.deliver (xorBytes (s.port.din.take n) s.blockBytes)).step
    (.emit [] (some (off + n, len)))
  exact (reaches_takeSrc off len h hn).trans
    (.head hcombine ((reaches_emit _ _ hs).trans (.of_step hnext)))

/-- R120: what one chunk of an `XORKS` does: its block, its bytes in, its bytes out. -/
theorem reaches_chunk {s : State} (h : s.Attended) {off len n : Nat} (hlt : off < len)
    (hn : n = min 64 (len - off)) (hdin : n ≤ s.port.din.length) :
    Reaches (s.accept (.chunk off len))
      (((s.genBlock.deliver (xorBytes (s.port.din.take n) s.genBlock.blockBytes)).consume n).accept
        (.chunk (off + n) len)) := by
  have hload : step (s.accept (.chunk off len)) = .next (s.stateLoad.accept (.chunk off len)) := by
    rw [h.step, State.progress, State.progressChunk, if_pos hlt]; rfl
  have hblock := reaches_block h (.chunk off len)
  rw [afterBlock_chunk, ← hn] at hblock
  have hbytes := reaches_chunk_of_takeSrc h.genBlock off len (n := n)
    (by rw [genBlock_port]; exact hdin)
  rw [genBlock_port] at hbytes
  exact .head hload (hblock.trans hbytes)

theorem chunkCount_zero : chunkCount 0 = 0 := rfl

theorem chunkCount_pos {n : Nat} (h : 0 < n) : chunkCount n = chunkCount (n - min 64 n) + 1 := by
  show (n + 63) / 64 = (n - min 64 n + 63) / 64 + 1
  omega

/-- R120: what a chunk leaves of the remaining payload. -/
theorem take_drop_chunk (b : List Byte) (m : Nat) :
    (b.drop (min 64 m)).take (m - min 64 m) = (b.take m).drop 64 := by
  rw [List.drop_take]
  rcases Nat.le_total 64 m with h | h
  · rw [Nat.min_eq_left h]
  · rw [Nat.min_eq_right h, Nat.sub_self, Nat.sub_eq_zero_of_le h, List.take_zero, List.take_zero]

/-- R120: the chunks of an `XORKS` from `off` on, and the response. -/
theorem reaches_chunks {s : State} (h : s.Attended) {off len k : Nat}
    (hk : chunkCount (len - off) = k) (hdin : len - off ≤ s.port.din.length) :
    Reaches (s.accept (.chunk off len))
      (((s.applyChunks k (s.port.din.take (len - off))).consume (len - off)).answer .ok) := by
  induction k generalizing s off with
  | zero =>
    have hend : len - off = 0 := Nat.eq_zero_of_not_pos fun hpos => by
      rw [chunkCount_pos hpos] at hk
      omega
    have hlast : step (s.accept (.chunk off len)) = .next (s.accept (.respond .ok)) := by
      rw [h.step, State.progress, State.progressChunk, if_neg (by omega)]; rfl
    rw [hend]
    exact .head hlast (reaches_respond h .ok)
  | succ k ih =>
    have hpos : 0 < len - off := Nat.pos_of_ne_zero fun hend => by
      rw [hend, chunkCount_zero] at hk
      omega
    obtain ⟨n, hn⟩ : ∃ n, n = min 64 (len - off) := ⟨_, rfl⟩
    have hleft : len - (off + n) = len - off - n := Nat.sub_add_eq len off n
    have hfirst := reaches_chunk h (Nat.lt_of_sub_pos hpos) hn (by omega)
    have hsrc : (s.port.din.drop n).take (len - (off + n)) = (s.port.din.take (len - off)).drop 64 := by
      rw [hleft, hn, take_drop_chunk]
    have hrest := ih ((h.genBlock.deliver
      (xorBytes (s.port.din.take n) s.genBlock.blockBytes)).consume n) (off := off + n)
      (by rw [chunkCount_pos hpos] at hk; rw [hleft, hn]; omega)
      (by simp only [State.consume_din, State.deliver_din, genBlock_port, List.length_drop]; omega)
    simp only [State.consume_din, State.deliver_din, genBlock_port] at hrest
    rw [hsrc, applyChunks_consume, State.consume_consume, show n + (len - (off + n)) = len - off by omega]
      at hrest
    rw [applyChunks_succ, List.take_take, ← hn]
    exact hfirst.trans hrest

/-- R120: the micro-steps of `XORKS` end where its one step ends. -/
theorem reaches_xorks {s : State} (h : s.Attended) {len : Nat} (hdin : len ≤ s.port.din.length) :
    Reaches (s.accept (.chunk 0 len)) (s.xorksNow len) :=
  reaches_chunks h (off := 0) rfl hdin

/-! ### A command at once, or accepted -/

/-- R14, R163: a command that the host serves runs at once, as `now` says; any other is accepted as
the task `t` (log 1). -/
def State.atOnce (nIn nOut : Nat) (now : State → State) (t : Task) (s : State) : State :=
  if s.served nIn nOut then now s else s.accept t

theorem execInit_eq (klen nlen : Nat) (s : State) : execInit klen nlen s =
    .next (if lengthsRight klen nlen then
      s.atOnce (klen + nlen) 0 .initNow (.takeInit 48 [])
    else s.atOnce (klen + nlen) 0 (.raise .lengthError (klen + nlen))
      (.discard (klen + nlen) .lengthError)) := rfl

theorem execReset_eq (s : State) : execReset s =
    .next (s.clearCtr.atOnce 0 0 (.answer .ok) (.respond .ok)) := rfl

theorem execGenblock_eq (s : State) : execGenblock s =
    .next (if s.keyed then s.atOnce 0 64 .genblockNow .genblock
    else s.atOnce 0 0 (.raise .notKeyed 0) (.discard 0 .notKeyed)) := rfl

theorem execXorks_eq (len : Nat) (s : State) : execXorks len s =
    .next (if s.keyed then s.atOnce len len (.xorksNow len) (.chunk 0 len)
    else s.atOnce len 0 (.raise .notKeyed len) (.discard len .notKeyed)) := rfl

theorem lengthsRight_iff {klen nlen : Nat} :
    lengthsRight klen nlen = true ↔ klen = 32 ∧ nlen = 16 := by
  simp [lengthsRight]

/-- R136: no instruction stops the machine. -/
theorem exec_eq_next (i : Instr) (s : State) : ∃ t, exec i s = .next t := by
  cases i <;> exact ⟨_, rfl⟩

/-- R60: what is the host's on the channels, and the offered command words, are left as they are. -/
structure KeepsHost (s t : State) : Prop where
  rst       : t.port.rst = s.port.rst
  cmd       : t.port.cmd = s.port.cmd
  doutReady : t.port.doutReady = s.port.doutReady
  rspReady  : t.port.rspReady = s.port.rspReady

theorem KeepsHost.atOnce {nIn nOut : Nat} {now : State → State} {t : Task} {s : State}
    (h : KeepsHost s (now s)) : KeepsHost s (s.atOnce nIn nOut now t) := by
  rw [State.atOnce]
  split
  · exact h
  · exact ⟨rfl, rfl, rfl, rfl⟩

theorem raise_keepsHost (r : Response) (n : Nat) (s : State) : KeepsHost s (s.raise r n) :=
  ⟨rfl, rfl, rfl, rfl⟩

theorem genblockNow_keepsHost (s : State) : KeepsHost s s.genblockNow := by
  obtain ⟨m, out, h⟩ := genblockNow_frame s
  rw [h]
  exact ⟨rfl, rfl, rfl, rfl⟩

theorem xorksNow_keepsHost (len : Nat) (s : State) : KeepsHost s (s.xorksNow len) := by
  obtain ⟨m, n, ph, r, out, h⟩ := xorksNow_frame len s
  rw [h]
  exact ⟨rfl, rfl, rfl, rfl⟩

/-- R60: no instruction changes the host's inputs or the offered command words. -/
theorem exec_keepsHost {i : Instr} {s t : State} (h : exec i s = .next t) : KeepsHost s t := by
  cases i with
  | init klen nlen =>
    rw [exec, execInit_eq] at h
    cases h
    split
    · exact .atOnce ⟨rfl, rfl, rfl, rfl⟩
    · exact .atOnce (raise_keepsHost _ _ s)
  | reset =>
    rw [exec, execReset_eq] at h
    cases h
    obtain ⟨hrst, hcmd, hdout, hrsp⟩ := KeepsHost.atOnce (nIn := 0) (nOut := 0) (t := .respond .ok)
      (⟨rfl, rfl, rfl, rfl⟩ : KeepsHost s.clearCtr (s.clearCtr.answer .ok))
    exact ⟨hrst, hcmd, hdout, hrsp⟩
  | genblock =>
    rw [exec, execGenblock_eq] at h
    cases h
    split
    · exact .atOnce (genblockNow_keepsHost s)
    · exact .atOnce (raise_keepsHost _ _ s)
  | xorks len =>
    rw [exec, execXorks_eq] at h
    cases h
    split
    · exact .atOnce (xorksNow_keepsHost len s)
    · exact .atOnce (raise_keepsHost _ _ s)
  | rndE => cases h; exact ⟨rfl, rfl, rfl, rfl⟩
  | rndO => cases h; exact ⟨rfl, rfl, rfl, rfl⟩

/-! ### A served command leaves the unit idle -/

theorem State.Attended.applyChunks {s : State} (h : s.Attended) (k : Nat) (src : List Byte) :
    (s.applyChunks k src).Attended := by
  induction k generalizing src s with
  | zero => exact h
  | succ k ih => rw [applyChunks_succ]; exact ih (h.genBlock.deliver _) _

theorem State.Attended.served {s : State} (h : s.Attended) {nIn : Nat}
    (hn : nIn ≤ s.port.din.length) (nOut : Nat) : s.served nIn nOut = true :=
  served_iff.mpr ⟨hn, .inr h.doutReady, h.rspReady⟩

theorem State.Attended.atOnce {s : State} (h : s.Attended) {nIn : Nat}
    (hn : nIn ≤ s.port.din.length) (nOut : Nat) (now : State → State) (t : Task) :
    s.atOnce nIn nOut now t = now s := if_pos (h.served hn nOut)

theorem State.Attended.answer_idle {s : State} (h : s.Attended) (r : Response) :
    (s.answer r).Idle := ⟨h.rst, h.phase, rfl, rfl⟩

theorem State.Attended.genblockNow_idle {s : State} (h : s.Attended) : s.genblockNow.Idle :=
  (h.genBlock.deliver _).answer_idle .ok

theorem State.Attended.xorksNow_idle {s : State} (h : s.Attended) (len : Nat) :
    (s.xorksNow len).Idle :=
  ((h.applyChunks _ _).consume len).answer_idle .ok

theorem State.Attended.atOnce_idle {s : State} (h : s.Attended) {nIn nOut : Nat}
    {now : State → State} {t : Task} (hn : nIn ≤ s.port.din.length) (hnow : (now s).Idle) :
    (s.atOnce nIn nOut now t).Idle := by
  rw [h.atOnce hn]
  exact hnow

theorem State.Attended.raise_idle {s : State} (h : s.Attended) (r : Response) (n : Nat) :
    (s.raise r n).Idle := (h.consume n).answer_idle r

/-- R111: after a served instruction an idle unit is idle again. -/
theorem exec_idle {i : Instr} {s t : State} (hs : s.Idle) (ha : s.Attended)
    (hn : payloadLen i ≤ s.port.din.length) (h : exec i s = .next t) : t.Idle := by
  cases i with
  | init klen nlen =>
    rw [exec, execInit_eq] at h
    cases h
    split
    · exact ha.atOnce_idle hn (((ha.install _).consume _).answer_idle .ok)
    · exact ha.atOnce_idle hn (ha.raise_idle _ _)
  | reset =>
    have hclear : s.clearCtr.Attended := ⟨ha.rst, ha.phase, ha.doutReady, ha.rspReady⟩
    rw [exec, execReset_eq] at h
    cases h
    exact hclear.atOnce_idle hn (hclear.answer_idle .ok)
  | genblock =>
    rw [exec, execGenblock_eq] at h
    cases h
    split
    · exact ha.atOnce_idle hn ha.genblockNow_idle
    · exact ha.atOnce_idle hn (ha.raise_idle _ _)
  | xorks len =>
    rw [exec, execXorks_eq] at h
    cases h
    split
    · exact ha.atOnce_idle hn (ha.xorksNow_idle len)
    · exact ha.atOnce_idle hn (ha.raise_idle _ _)
  | rndE => cases h; exact ⟨hs.rst, hs.phase, hs.busy, hs.task⟩
  | rndO => cases h; exact ⟨hs.rst, hs.phase, hs.busy, hs.task⟩

/-! ### A host that serves the rest of a command later -/

theorem State.answer_serve (r : Response) (D : List Byte) (s : State) :
    (s.serve D).answer r = (s.answer r).serve D := rfl

theorem raise_serve {n : Nat} {s : State} (hn : n ≤ s.port.din.length) (r : Response)
    (D : List Byte) : (s.serve D).raise r n = (s.raise r n).serve D := by
  rw [State.raise, State.consume_serve hn, State.answer_serve, State.raise]

theorem memRead_append {n : Nat} {b : List Byte} (hn : n ≤ b.length) (D : List Byte) :
    memRead (b ++ D) 0 n = memRead b 0 n := by
  simp [memRead, List.take_append_of_le_length hn]

theorem initNow_serve {s : State} (hn : 48 ≤ s.port.din.length) (D : List Byte) :
    (s.serve D).initNow = s.initNow.serve D := by
  have hinstall : ∀ p, (s.serve D).install p = (s.install p).serve D := fun _ => rfl
  have hread : memRead (s.serve D).port.din 0 48 = memRead s.port.din 0 48 := memRead_append hn D
  change (((s.serve D).install (memRead (s.serve D).port.din 0 48)).consume 48).answer .ok = _
  rw [hread, hinstall, State.consume_serve (by exact hn), State.answer_serve]
  rfl

theorem genblockNow_serve (D : List Byte) (s : State) :
    (s.serve D).genblockNow = s.genblockNow.serve D := by
  have hdeliver : ∀ (b : List Byte) (u : State), (u.serve D).deliver b = (u.deliver b).serve D :=
    fun _ _ => rfl
  have hblock : ∀ u : State, (u.serve D).blockBytes = u.blockBytes := fun _ => rfl
  rw [State.genblockNow, genBlock_serve, hblock, hdeliver, State.answer_serve, State.genblockNow]

theorem applyChunks_din (k : Nat) (src : List Byte) (s : State) :
    (s.applyChunks k src).port.din = s.port.din := by
  obtain ⟨c, m, n, ph, r, out, h⟩ := applyChunks_frame k src s; rw [h]

theorem xorksNow_serve {len : Nat} {s : State} (hn : len ≤ s.port.din.length) (D : List Byte) :
    (s.serve D).xorksNow len = (s.xorksNow len).serve D := by
  rw [State.xorksNow, State.serve_din, memRead_append hn, applyChunks_serve,
    State.consume_serve (by rw [applyChunks_din]; exact hn), State.answer_serve, State.xorksNow]

/-- R14, R163: where a command that runs at once and its micro-steps agree, it does not matter
whether the host serves it before or after the unit takes it. -/
theorem reaches_atOnce {s : State} {D : List Byte} {nIn nOut : Nat} {now : State → State} {t : Task}
    (hs : s.Idle) (hn : nIn ≤ (s.serve D).port.din.length)
    (hnow : nIn ≤ s.port.din.length → now (s.serve D) = (now s).serve D)
    (hrun : Reaches ((s.serve D).accept t) (now (s.serve D))) :
    Reaches ((s.atOnce nIn nOut now t).serve D) ((s.serve D).atOnce nIn nOut now t) := by
  rw [(hs.serve_attended D).atOnce hn, State.atOnce]
  split
  case isTrue hserved =>
    rw [hnow (served_iff.mp hserved).1]
    exact .refl _
  case isFalse => exact hrun

/-- R138: the same for an error. -/
theorem reaches_error {s : State} {D : List Byte} {n : Nat} (r : Response) (hs : s.Idle)
    (hn : n ≤ (s.serve D).port.din.length) :
    Reaches ((s.atOnce n 0 (.raise r n) (.discard n r)).serve D)
      ((s.serve D).atOnce n 0 (.raise r n) (.discard n r)) :=
  reaches_atOnce hs hn (fun h => raise_serve h r D) (reaches_discard r (hs.serve_attended D) hn)

/-- R14, R31, R163: from the state in which a command was taken, a host that then serves the rest of
it brings the unit to the state of the command's one-step execution. -/
theorem exec_reaches_served {i : Instr} {s a : State} {D : List Byte} (hs : s.Idle)
    (hn : payloadLen i ≤ (s.serve D).port.din.length) (h : exec i s = .next a) :
    ∃ f, exec i (s.serve D) = .next f ∧ Reaches (a.serve D) f := by
  have hserved := hs.serve_attended D
  cases i with
  | init klen nlen =>
    rw [exec, execInit_eq] at h
    cases h
    rw [exec, execInit_eq]
    refine ⟨_, rfl, ?_⟩
    cases hl : lengthsRight klen nlen
    case false => exact reaches_error .lengthError hs hn
    case true =>
      obtain ⟨rfl, rfl⟩ := lengthsRight_iff.mp hl
      exact reaches_atOnce hs hn (fun h => initNow_serve h D) (reaches_init hserved hn)
  | reset =>
    have hclear : s.clearCtr.Idle := ⟨hs.rst, hs.phase, hs.busy, hs.task⟩
    rw [exec, execReset_eq] at h
    cases h
    exact ⟨_, rfl, reaches_atOnce hclear hn (fun _ => rfl)
      (reaches_respond (hclear.serve_attended D) .ok)⟩
  | genblock =>
    rw [exec, execGenblock_eq] at h
    cases h
    rw [exec, execGenblock_eq, State.serve_keyed]
    refine ⟨_, rfl, ?_⟩
    cases s.keyed
    case false => exact reaches_error .notKeyed hs hn
    case true =>
      exact reaches_atOnce hs hn (fun _ => genblockNow_serve D s) (reaches_genblock hserved)
  | xorks len =>
    rw [exec, execXorks_eq] at h
    cases h
    rw [exec, execXorks_eq, State.serve_keyed]
    refine ⟨_, rfl, ?_⟩
    cases s.keyed
    case false => exact reaches_error .notKeyed hs hn
    case true =>
      exact reaches_atOnce hs hn (fun h => xorksNow_serve h D) (reaches_xorks hserved hn)
  | rndE => cases h; exact ⟨_, rfl, .refl _⟩
  | rndO => cases h; exact ⟨_, rfl, .refl _⟩

theorem State.serve_nil {s : State} (h : s.port.doutReady = true) :
    s.serve [] = s.setRspReady true := by
  simp [State.serve, State.onPort, Port.serve, State.setRspReady, ← h]

theorem State.setRspReady_again {s : State} {ready : Bool} (h : s.port.rspReady = ready)
    (other : Bool) : (s.setRspReady other).setRspReady ready = s := by
  simp [State.setRspReady, ← h]

/-- Settles O50: a host that takes the response late serves the rest of the command by taking it. -/
theorem microStepsRefineTheCommand : Obligations.MicroStepsRefineTheCommand := by
  intro i s hs hn hdout hrsp
  have hlate : (s.setRspReady false).Idle := ⟨hs.rst, hs.phase, hs.busy, hs.task⟩
  obtain ⟨a, ha⟩ := exec_eq_next i (s.setRspReady false)
  have hserve : (s.setRspReady false).serve [] = s := by
    rw [State.serve_nil (s := s.setRspReady false) hdout, State.setRspReady_again hrsp]
  obtain ⟨f, hf, k, hk⟩ := exec_reaches_served (D := []) hlate (by rw [hserve]; exact hn) ha
  rw [hserve] at hf
  rw [State.serve_nil ((exec_keepsHost ha).doutReady.trans hdout)] at hk
  exact ⟨a, k, ha, hk.trans hf.symm⟩

/-! ### Any order of the host's moves -/

/-- R26, R60: no micro-step changes the host's inputs or the offered command words. -/
theorem progress_keepsHost (t : Task) (s : State) : KeepsHost s (s.progress t) := by
  cases t with
  | discard left r =>
    rw [State.progress, State.progressDiscard.eq_def]
    split <;> exact ⟨rfl, rfl, rfl, rfl⟩
  | takeInit left got =>
    rw [State.progress, State.progressInit.eq_def]
    split <;> exact ⟨rfl, rfl, rfl, rfl⟩
  | genblock => exact ⟨rfl, rfl, rfl, rfl⟩
  | chunk off len =>
    rw [State.progress, State.progressChunk]
    split <;> exact ⟨rfl, rfl, rfl, rfl⟩
  | takeSrc off len left got =>
    rw [State.progress, State.progressSrc.eq_def]
    split <;> exact ⟨rfl, rfl, rfl, rfl⟩
  | emit bytes resume =>
    rw [State.progress, State.progressEmit.eq_def]
    split
    · split <;> exact ⟨rfl, rfl, rfl, rfl⟩
    · split <;> exact ⟨rfl, rfl, rfl, rfl⟩
  | respond r =>
    rw [State.progress]
    split <;> exact ⟨rfl, rfl, rfl, rfl⟩

/-- R60, R66: a micro-step that takes a payload byte waits for it, or takes the same byte whatever
the host offers behind it. -/
theorem progress_take_serve {t : Task} {next : Byte → Task} {s : State}
    (hwait : s.port.din = [] → s.progress t = s)
    (htake : ∀ {u : State} {b : Byte} {rest : List Byte}, u.port.din = b :: rest →
      u.progress t = (u.consume 1).goOn (next b)) (D : List Byte) :
    s.progress t = s ∨ (s.serve D).progress t = (s.progress t).serve D := by
  cases hd : s.port.din with
  | nil => exact .inl (hwait hd)
  | cons b rest =>
    have hd' : (s.serve D).port.din = b :: (rest ++ D) := by rw [State.serve_din, hd]; rfl
    have hlen : 1 ≤ s.port.din.length := by simp [hd]
    rw [htake hd, htake hd', State.consume_serve hlen]
    exact .inr rfl

/-- R160, R163: a micro-step waits for the host, or does what it does where the host serves the rest
of the command. -/
theorem progress_serve (t : Task) (s : State) (D : List Byte) :
    s.progress t = s ∨ (s.serve D).progress t = (s.progress t).serve D := by
  cases t with
  | discard left r =>
    cases left with
    | zero => exact .inr rfl
    | succ n =>
      exact progress_take_serve (fun hd => by simp [State.progress, State.progressDiscard, hd])
        (fun hd => progress_discard_cons hd n r) D
  | takeInit left got =>
    cases left with
    | zero => exact .inr rfl
    | succ n =>
      exact progress_take_serve (fun hd => by simp [State.progress, State.progressInit, hd])
        (fun hd => progress_takeInit_cons hd n got) D
  | genblock => exact .inr rfl
  | chunk off len =>
    simp only [State.progress, State.progressChunk]
    split <;> exact .inr rfl
  | takeSrc off len left got =>
    cases left with
    | zero => exact .inr rfl
    | succ n =>
      exact progress_take_serve (fun hd => by simp [State.progress, State.progressSrc, hd])
        (fun hd => progress_takeSrc_cons hd off len n got) D
  | emit bytes resume =>
    cases bytes with
    | nil => cases resume <;> exact .inr rfl
    | cons b rest =>
      simp only [State.progress, State.progressEmit, State.serve_doutReady, if_true]
      split
      · exact .inr rfl
      · exact .inl rfl
  | respond r =>
    simp only [State.progress, State.serve_rspReady, if_true]
    split
    · exact .inr rfl
    · exact .inl rfl

/-- U14: an idle unit that is offered no command word stays as it is. -/
theorem step_of_idle {s : State} (hs : s.Idle) (hc : s.port.cmd = []) : step s = .next s :=
  step_of_goes (by simp [State.fetch, State.fetchCommand, hs.rst, hs.phase, hs.task, hs.busy, hc])

/-- R26, R31: a step with no command word to take is a wait, or the step of the same unit with a
host that serves the rest of the command. -/
theorem step_serve {s : State} (hr : s.port.rst = false) (hc : s.port.cmd = []) (D : List Byte) :
    ∃ t, step s = .next t ∧ KeepsHost s t ∧ (t = s ∨ step (s.serve D) = .next (t.serve D)) := by
  have hkeep : KeepsHost s s := ⟨rfl, rfl, rfl, rfl⟩
  rcases hp : s.phase with _ | _
  case gen =>
    refine ⟨_, step_of_gen hr hp, ?_, .inr ?_⟩
    · split <;> exact ⟨rfl, rfl, rfl, rfl⟩
    · rw [step_of_gen (s := s.serve D) hr hp, State.serve_rnd]
      split <;> rfl
  case idle =>
    rcases ht : s.task with _ | t
    case some =>
      refine ⟨_, step_of_task hr hp ht, progress_keepsHost t s, ?_⟩
      rw [step_of_task (s := s.serve D) hr hp ht]
      exact (progress_serve t s D).imp_right (congrArg _)
    case none =>
      refine ⟨s, step_of_goes ?_, hkeep, .inl rfl⟩
      cases hb : s.busy <;> simp [State.fetch, State.fetchCommand, hr, hp, ht, hb, hc]

theorem offerPayload_nil (s : State) : s.offerPayload [] = s := by simp [State.offerPayload]

theorem State.serve_nil_eq (s : State) : s.serve [] = s.takesAll := by
  rw [State.serve_eq, offerPayload_nil]

theorem State.serve_offerPayload (bytes D : List Byte) (s : State) :
    (s.offerPayload bytes).serve D = s.serve (bytes ++ D) := by
  simp [State.serve, State.onPort, Port.serve, State.offerPayload]

/-- R160, R163: whatever the host does next, and whatever the unit does, stays on the run that the
unit makes when the host serves the rest of the command now. -/
theorem move_reaches (m : Move) {s : State} (hr : s.port.rst = false) (hc : s.port.cmd = [])
    (D : List Byte) : (m.apply s).port.rst = false ∧ (m.apply s).port.cmd = [] ∧
      Reaches (s.serve (m.offered ++ D)) ((m.apply s).serve D) := by
  cases m with
  | offer bytes => exact ⟨hr, hc, State.serve_offerPayload bytes D s ▸ .refl _⟩
  | doutReady ready => exact ⟨hr, hc, .refl _⟩
  | rspReady ready => exact ⟨hr, hc, .refl _⟩
  | unitStep =>
    obtain ⟨t, hstep, hkeep, hrun⟩ := step_serve hr hc D
    have happly : Move.unitStep.apply s = t := by simp [Move.apply, hstep]
    rw [happly]
    refine ⟨hkeep.rst.trans hr, hkeep.cmd.trans hc, ?_⟩
    rcases hrun with rfl | hserve
    · exact .refl _
    · exact .of_step hserve

theorem moves_reach (moves : List Move) {s : State} (hr : s.port.rst = false)
    (hc : s.port.cmd = []) :
    Reaches (s.serve (moves.flatMap Move.offered)) (moves.foldl Move.apply s).takesAll := by
  induction moves generalizing s with
  | nil => exact State.serve_nil_eq s ▸ .refl _
  | cons m ms ih =>
    obtain ⟨hr', hc', hrun⟩ := move_reaches m hr hc (ms.flatMap Move.offered)
    exact hrun.trans (ih hr' hc')

/-- Settles O56: the host's moves keep the unit on the run that leads to the served command's state,
which no step leaves. -/
theorem anyHostScheduleGivesTheCommand : Obligations.AnyHostScheduleGivesTheCommand := by
  intro i s a moves hs hc ha hn
  obtain ⟨f, hf, hrun⟩ := exec_reaches_served (D := moves.flatMap Move.offered) hs hn ha
  have hkeep := exec_keepsHost ha
  have hidle : f.Idle := exec_idle (hs.serve _) (hs.serve_attended _) hn hf
  have hstuck : step f = .next f := step_of_idle hidle ((exec_keepsHost hf).cmd.trans hc)
  obtain ⟨k, hk⟩ := (moves_reach moves (hkeep.rst.trans hs.rst) (hkeep.cmd.trans hc)).of_stuck
    hstuck hrun
  rw [← State.serve_eq]
  exact ⟨k, hk.trans hf.symm⟩

end Sys2Proof.Machine
end

section
/-! Scope: the reset state, what a command word decodes to, and the operations that keep the invariant
(spec/10_state.md R20 to R29, R33; 30_encoding.md R61 to R64; 42_cipher_fsm.md R100, R112). -/

namespace Sys2Proof.Machine

/-! ### The reset state -/

/-- Settles O29, by evaluating the reset state. -/
theorem resetStateValues : Obligations.ResetStateValues := by
  refine ⟨?_, ?_, ?_, ?_, ?_, ?_, ?_, ?_, ?_⟩ <;> rfl

/-- Settles O48: clause by clause, every register being that of the reset. -/
theorem resetSatisfiesTheInvariant : Obligations.ResetSatisfiesTheInvariant :=
  ⟨rfl, fun _ => rfl, fun _ => rfl, nofun, rfl, fun _ => rfl, fun _ => ⟨rfl, rfl, rfl, rfl⟩⟩

/-- R33, R150: what a hardware reset leaves out of the reset state, the invariant does not speak of. -/
theorem inv_hardwareReset (s : State) : s.hardwareReset.Inv :=
  have h : State.reset.Inv := resetSatisfiesTheInvariant
  ⟨h.busy, h.rnd, h.residue, h.gen, h.sound, h.needs, h.unkeyed⟩

/-! ### What a command word decodes to -/

/-- R61 to R64: a word that decodes is the encoding of what it decodes to, whose lengths fit. -/
theorem encode_of_decodeWord {w : BitVec 32} {i : Instr} (h : decodeWord w = .ok i) :
    encode i = .word w ∧ i.wellFormed = true := by
  have hw := w.isLt
  have hk := wordField_lt w 8 8
  have hn := wordField_lt w 0 8
  have hx := wordField_lt w 0 28
  unfold decodeWord at h
  split_ifs at h with h1 h1r h2 h2r h3 h3r h4 <;> cases h
  · refine ⟨congrArg Encoding.word (BitVec.eq_of_toNat_eq ?_), by
      simpa [Instr.wellFormed] using And.intro hk hn⟩
    rw [init_word_toNat hk hn]
    simp only [wordField_eq] at *
    omega
  · refine ⟨congrArg Encoding.word (BitVec.eq_of_toNat_eq ?_), rfl⟩
    change 0x20000000 = w.toNat
    simp only [wordField_eq] at *
    omega
  · refine ⟨congrArg Encoding.word (BitVec.eq_of_toNat_eq ?_), rfl⟩
    change 0x30000000 = w.toNat
    simp only [wordField_eq] at *
    omega
  · refine ⟨congrArg Encoding.word (BitVec.eq_of_toNat_eq ?_), by
      simpa [Instr.wellFormed] using hx⟩
    rw [xorks_word_toNat hx]
    simp only [wordField_eq] at *
    omega

/-! ### Sound tasks -/

theorem resumeSound_iff {off len : Nat} : resumeSound (some (off, len)) = true ↔
    len < 2 ^ 28 ∧ off ≤ len ∧ (off % 64 = 0 ∨ off = len) := by
  simp [resumeSound, and_assoc]

theorem sound_discard_iff {left : Nat} {r : Response} :
    (Task.discard left r).sound = true ↔ left < 2 ^ 28 ∧ r ≠ .ok := by
  simp [Task.sound]

theorem sound_takeInit_iff {left : Nat} {got : List Byte} :
    (Task.takeInit left got).sound = true ↔ left + got.length = 48 := by
  simp [Task.sound]

theorem sound_takeSrc_iff {off len left : Nat} {got : List Byte} :
    (Task.takeSrc off len left got).sound = true ↔
      len < 2 ^ 28 ∧ off < len ∧ off % 64 = 0 ∧ left + got.length = min 64 (len - off) := by
  simp [Task.sound, and_assoc]

theorem sound_emit_iff {bytes : List Byte} {resume : Option (Nat × Nat)} :
    (Task.emit bytes resume).sound = true ↔ bytes.length ≤ 64 ∧ resumeSound resume = true := by
  simp [Task.sound]

/-! ### Operations that keep the invariant -/

/-- The invariant does not speak of the interface. -/
theorem State.Inv.onPort {s : State} (h : s.Inv) (f : Port → Port) : (s.onPort f).Inv :=
  ⟨h.busy, h.rnd, h.residue, h.gen, h.sound, h.needs, h.unkeyed⟩

theorem State.Inv.consume {s : State} (h : s.Inv) (n : Nat) : (s.consume n).Inv :=
  h.onPort (Port.consume n)

theorem State.Inv.deliver {s : State} (h : s.Inv) (bytes : List Byte) : (s.deliver bytes).Inv :=
  h.onPort (Port.deliver bytes)

theorem State.Inv.withCmd {s : State} (h : s.Inv) (ws : List (BitVec 32)) : (s.withCmd ws).Inv :=
  h.onPort fun p => { p with cmd := ws }

/-- R29, R66, R134: an idle sequencer may go on with any task that is sound and that the unit has the
key for. -/
theorem State.Inv.accept {s : State} (h : s.Inv) (hp : s.phase = .idle) {t : Task}
    (hsound : t.sound = true) (hkey : s.keyed = false → t.needsKey = false) : (s.accept t).Inv where
  busy := rfl
  rnd := h.rnd
  residue := h.residue
  gen hg := by simp [hp] at hg
  sound := hsound
  needs := hkey
  unkeyed := h.unkeyed

theorem goOn_eq_accept {s : State} (hb : s.busy = true) (t : Task) : s.goOn t = s.accept t := by
  simp [State.goOn, State.accept, ← hb]

theorem State.Inv.goOn {s : State} (h : s.Inv) (hp : s.phase = .idle) (hb : s.busy = true) {t : Task}
    (hsound : t.sound = true) (hkey : s.keyed = false → t.needsKey = false) : (s.goOn t).Inv := by
  rw [goOn_eq_accept hb]
  exact h.accept hp hsound hkey

theorem State.Inv.answer {s : State} (h : s.Inv) (hp : s.phase = .idle) (r : Response) :
    (s.answer r).Inv where
  busy := rfl
  rnd := h.rnd
  residue := h.residue
  gen hg := by simp [hp] at hg
  sound := rfl
  needs _ := rfl
  unkeyed := h.unkeyed

theorem State.Inv.raise {s : State} (h : s.Inv) (hp : s.phase = .idle) (r : Response) (n : Nat) :
    (s.raise r n).Inv := (h.consume n).answer hp r

theorem State.Inv.install {s : State} (h : s.Inv) (payload : List Byte) : (s.install payload).Inv :=
  ⟨h.busy, h.rnd, h.residue, h.gen, h.sound, nofun, nofun⟩

theorem State.Inv.clearCtr {s : State} (h : s.Inv) : s.clearCtr.Inv where
  busy := h.busy
  rnd := h.rnd
  residue := h.residue
  gen := h.gen
  sound := h.sound
  needs := h.needs
  unkeyed hk := ⟨rfl, (h.unkeyed hk).2⟩

/-- R104: a block is generated on a keyed unit only, for a task that asks for one. -/
theorem State.Inv.stateLoad {s : State} (h : s.Inv) (hk : s.keyed = true)
    (hg : s.task.any Task.generates = true) : s.stateLoad.Inv where
  busy := h.busy
  rnd := nofun
  residue := nofun
  gen _ := hg
  sound := h.sound
  needs := h.needs
  unkeyed hu := by simp [hk] at hu

theorem State.Inv.genBlock {s : State} (h : s.Inv) (hk : s.keyed = true) : s.genBlock.Inv where
  busy := by simp [h.busy]
  rnd _ := genBlock_rnd s
  residue _ := genBlock_residue s
  gen hg := by simp at hg
  sound := by simp [h.sound]
  needs hu := by simp [hk] at hu
  unkeyed hu := by simp [hk] at hu

theorem applyChunks_keyed (k : Nat) (src : List Byte) (s : State) :
    (s.applyChunks k src).keyed = s.keyed := by
  obtain ⟨c, m, n, ph, r, out, h⟩ := applyChunks_frame k src s; rw [h]

theorem State.Inv.applyChunks {s : State} (h : s.Inv) (hk : s.keyed = true) (k : Nat)
    (src : List Byte) : (s.applyChunks k src).Inv := by
  induction k generalizing src s with
  | zero => exact h
  | succ k ih =>
    rw [applyChunks_succ]
    exact ih ((h.genBlock hk).deliver _) (by rw [State.deliver_keyed, genBlock_keyed, hk]) _

theorem applyChunks_phase {s : State} (hp : s.phase = .idle) (k : Nat) (src : List Byte) :
    (s.applyChunks k src).phase = .idle := by
  induction k generalizing src s with
  | zero => exact hp
  | succ k ih => rw [applyChunks_succ]; exact ih (by rw [State.deliver_phase, genBlock_phase]) _

/-! ### The rounds of a block -/

theorem needsKey_of_generates {t : Task} (h : t.generates = true) : t.needsKey = true := by
  cases t <;> simp_all [Task.generates, Task.needsKey]

/-- R100, R134: a block in generation has a task, which asks for it and needs the key. -/
theorem State.Inv.task_of_gen {s : State} (h : s.Inv) (hp : s.phase = .gen) :
    ∃ t, s.task = some t ∧ t.generates = true ∧ t.sound = true ∧ s.keyed = true := by
  have hgen := h.gen hp
  have hsound := h.sound
  have hneeds := h.needs
  cases ht : s.task with
  | none => simp [ht] at hgen
  | some t =>
    simp only [ht, Option.any_some, Option.all_some] at hgen hsound hneeds
    refine ⟨t, rfl, hgen, hsound, Bool.of_not_eq_false fun hu => ?_⟩
    simp [needsKey_of_generates hgen] at hneeds
    simp [hneeds] at hu

theorem State.Inv.roundStep {s : State} (h : s.Inv) (hp : s.phase = .gen) (p : Parity) :
    (s.roundStep p).Inv := by
  obtain ⟨t, ht, hg, hsound, hk⟩ := h.task_of_gen hp
  exact {
    busy := h.busy
    rnd := fun hi => by simp [hp] at hi
    residue := fun _ => rfl
    gen := h.gen
    sound := h.sound
    needs := h.needs
    unkeyed := fun hu => by simp [hk] at hu }

/-- R66, R120: what is left of a command when its block is ready is sound again. -/
theorem sound_afterBlock {t : Task} {block : List Byte} (hg : t.generates = true)
    (hs : t.sound = true) (hb : block.length = 64) : (t.afterBlock block).sound = true := by
  cases t with
  | genblock => exact sound_emit_iff.mpr ⟨hb.le, rfl⟩
  | chunk off len =>
    have hlt : off < len := of_decide_eq_true hg
    obtain ⟨hlen, -, hoff⟩ := resumeSound_iff.mp hs
    exact sound_takeSrc_iff.mpr ⟨hlen, hlt, hoff.resolve_right hlt.ne, rfl⟩
  | _ => cases hg

/-- R106: the finish of a block. -/
theorem State.Inv.finishBlock {s : State} (h : s.Inv) (hp : s.phase = .gen) (hres : s.ms = s.ns) :
    s.finishBlock.Inv := by
  obtain ⟨t, ht, hg, hsound, hk⟩ := h.task_of_gen hp
  exact {
    busy := by simp [h.busy]
    rnd := fun _ => rfl
    residue := fun _ => hres
    gen := nofun
    sound := by simp [ht, sound_afterBlock hg hsound]
    needs := fun hu => by simp [hk] at hu
    unkeyed := fun hu => by simp [hk] at hu }

end Sys2Proof.Machine
end

section
/-! Scope: every step keeps the invariant (spec/10_state.md R20 to R29; 42_cipher_fsm.md R100, R112;
60_exceptions.md R134). -/

namespace Sys2Proof.Machine

/-! ### Every step keeps the invariant -/

/-- R111: what the invariant says of the command in progress. -/
theorem State.Inv.of_task {s : State} (h : s.Inv) {t : Task} (ht : s.task = some t) :
    s.busy = true ∧ t.sound = true ∧ (s.keyed = false → t.needsKey = false) := by
  have hsound := h.sound
  have hneeds := h.needs
  rw [ht] at hsound hneeds
  exact ⟨by simp [h.busy, ht], hsound, hneeds⟩

/-- R120, R121: the chunk just taken ends at a chunk boundary or at the end of the buffer. -/
theorem resumeSound_of_takeSrc {off len : Nat} {got : List Byte}
    (h : (Task.takeSrc off len 0 got).sound = true) :
    resumeSound (some (off + got.length, len)) = true ∧ got.length ≤ 64 := by
  obtain ⟨hlen, hoff, hmod, hgot⟩ := sound_takeSrc_iff.mp h
  rw [resumeSound_iff]
  omega

/-- R31: a micro-step keeps the invariant. -/
theorem State.Inv.progress {s : State} (h : s.Inv) (hp : s.phase = .idle) {t : Task}
    (ht : s.task = some t) : (s.progress t).Inv := by
  obtain ⟨hb, hsound, hkey⟩ := h.of_task ht
  cases t with
  | discard left r =>
    rw [State.progress, State.progressDiscard.eq_def]
    split
    · exact h.goOn hp hb rfl fun _ => rfl
    · exact h
    · obtain ⟨hleft, hr⟩ := sound_discard_iff.mp hsound
      exact (h.consume 1).goOn hp hb (sound_discard_iff.mpr ⟨by omega, hr⟩) fun _ => rfl
  | takeInit left got =>
    rw [State.progress, State.progressInit.eq_def]
    split
    · exact (h.install got).goOn hp hb rfl fun _ => rfl
    · exact h
    · refine (h.consume 1).goOn hp hb ?_ fun _ => rfl
      rw [sound_takeInit_iff] at hsound ⊢
      rw [List.length_append, List.length_singleton]
      omega
  | genblock =>
    exact h.stateLoad (Bool.of_not_eq_false fun hu => nomatch hkey hu) (by rw [ht]; rfl)
  | chunk off len =>
    rw [State.progress, State.progressChunk]
    split
    case isTrue hlt =>
      exact h.stateLoad (Bool.of_not_eq_false fun hu => nomatch hkey hu)
        (by rw [ht]; exact decide_eq_true hlt)
    case isFalse => exact h.goOn hp hb rfl fun _ => rfl
  | takeSrc off len left got =>
    rw [State.progress, State.progressSrc.eq_def]
    split
    · obtain ⟨hresume, hlen⟩ := resumeSound_of_takeSrc hsound
      refine h.goOn hp hb (sound_emit_iff.mpr ⟨?_, hresume⟩) hkey
      simp [hlen]
    · exact h
    · refine (h.consume 1).goOn hp hb ?_ hkey
      rw [sound_takeSrc_iff] at hsound ⊢
      rw [List.length_append, List.length_singleton]
      omega
  | emit bytes resume =>
    rw [State.progress, State.progressEmit.eq_def]
    obtain ⟨hlen, hresume⟩ := sound_emit_iff.mp hsound
    split
    case h_1 b rest =>
      split
      · have hrest : rest.length ≤ 64 := (Nat.le_succ _).trans hlen
        exact (h.deliver [b]).goOn hp hb (sound_emit_iff.mpr ⟨hrest, hresume⟩) hkey
      · exact h
    case h_2 =>
      split
      · exact h.goOn hp hb hresume hkey
      · exact h.goOn hp hb rfl fun _ => rfl
  | respond r =>
    rw [State.progress]
    split
    · exact h.answer hp r
    · exact h

/-- R14, R163: a property of a command's outcome holds if it holds of both: at once, and accepted. -/
theorem State.atOnce_cases {P : State → Prop} {nIn nOut : Nat} {now : State → State} {t : Task}
    {s : State} (hnow : s.served nIn nOut = true → P (now s)) (haccept : P (s.accept t)) :
    P (s.atOnce nIn nOut now t) := by
  rw [State.atOnce]
  split
  case isTrue hserved => exact hnow hserved
  case isFalse => exact haccept

/-- R138: an error keeps the invariant, at once or accepted. -/
theorem State.Inv.error {s : State} (h : s.Inv) (hp : s.phase = .idle) {n : Nat} (hn : n < 2 ^ 28)
    {r : Response} (hr : r ≠ .ok) :
    (s.atOnce n 0 (.raise r n) (.discard n r)).Inv :=
  State.atOnce_cases (fun _ => h.raise hp r n)
    (h.accept hp (sound_discard_iff.mpr ⟨hn, hr⟩) fun _ => rfl)

theorem State.Inv.genblockNow {s : State} (h : s.Inv) (hk : s.keyed = true) : s.genblockNow.Inv :=
  ((h.genBlock hk).deliver _).answer (by rw [State.deliver_phase, genBlock_phase]) .ok

theorem State.Inv.xorksNow {s : State} (h : s.Inv) (hp : s.phase = .idle) (hk : s.keyed = true)
    (len : Nat) : (s.xorksNow len).Inv :=
  ((h.applyChunks hk _ _).consume len).answer (applyChunks_phase hp _ _) .ok

/-- R101 to R103, R120: a command that an idle unit takes keeps the invariant. -/
theorem State.Inv.exec {s u : State} (h : s.Inv) (hp : s.phase = .idle) {i : Instr}
    (hi : i.wellFormed = true) (hE : i ≠ .rndE) (hO : i ≠ .rndO) (he : exec i s = .next u) :
    u.Inv := by
  cases i with
  | init klen nlen =>
    rw [Machine.exec, execInit_eq] at he
    cases he
    obtain ⟨hklen, hnlen⟩ : klen < 256 ∧ nlen < 256 := by simpa [Instr.wellFormed] using hi
    split
    · exact State.atOnce_cases (fun _ => ((h.install _).consume _).answer hp .ok)
        (h.accept hp rfl fun _ => rfl)
    · exact h.error hp (by omega) nofun
  | reset =>
    rw [Machine.exec, execReset_eq] at he
    cases he
    exact State.atOnce_cases (fun _ => h.clearCtr.answer hp .ok)
      (h.clearCtr.accept hp rfl fun _ => rfl)
  | genblock =>
    rw [Machine.exec, execGenblock_eq] at he
    cases he
    split
    case isTrue hk =>
      exact State.atOnce_cases (fun _ => h.genblockNow hk)
        (h.accept hp rfl fun hu => by simp [hk] at hu)
    case isFalse => exact h.error hp (by decide) nofun
  | xorks len =>
    rw [Machine.exec, execXorks_eq] at he
    cases he
    have hlen : len < 2 ^ 28 := by simpa [Instr.wellFormed] using hi
    split
    case isTrue hk =>
      exact State.atOnce_cases (fun _ => h.xorksNow hp hk len)
        (h.accept hp (resumeSound_iff.mpr ⟨hlen, Nat.zero_le _, .inl rfl⟩)
          fun hu => by simp [hk] at hu)
    case isFalse => exact h.error hp hlen nofun
  | rndE => exact absurd rfl hE
  | rndO => exact absurd rfl hO

theorem illegal_eq (s : State) : s.illegal =
    s.atOnce 0 0 (.raise .illegalCommand 0) (.discard 0 .illegalCommand) := rfl

/-- Settles O49, along everything that a step can do. -/
theorem stepKeepsTheInvariant : Obligations.StepKeepsTheInvariant := by
  intro s t h hstep
  rcases step_cases s with ⟨-, hs⟩ | ⟨-, hp, -, hs⟩ | ⟨-, hp, -, hs⟩ | ⟨k, -, hp, hk, hs⟩ |
    ⟨-, -, -, -, hs⟩ | ⟨w, ws, i, -, hp, -, -, -, hd, hs⟩ | ⟨w, ws, e, -, hp, -, -, -, -, hs⟩ <;>
    rw [hs] at hstep
  case inr.inr.inr.inr.inr.inl =>
    obtain ⟨hE, hO⟩ := decodeWord_ne_micro hd
    exact (h.withCmd ws).exec hp (encode_of_decodeWord hd).2 hE hO hstep
  all_goals cases hstep
  · exact inv_hardwareReset s
  · exact h.roundStep hp _
  · exact (h.roundStep hp _).finishBlock hp rfl
  · exact h.progress hp hk
  · exact h
  · rw [illegal_eq]
    exact (h.withCmd ws).error hp (by decide) nofun

end Sys2Proof.Machine
end

section
/-! Scope: which registers a step writes, and when (spec/10_state.md R21 to R23, R25, R28;
42_cipher_fsm.md R107, R109, R110). -/

namespace Sys2Proof.Machine

/-! ### The registers a command writes -/

/-- R21, R22, R25, R28: the registers that only an `INIT` or the hardware reset writes. -/
structure KeepsKey (s t : State) : Prop where
  key   : t.key = s.key
  nonce : t.nonce = s.nonce
  keyed : t.keyed = s.keyed
  mac   : t.mac = s.mac

theorem KeepsKey.of_withCmd {s t : State} {ws : List (BitVec 32)} (h : KeepsKey (s.withCmd ws) t) :
    KeepsKey s t := ⟨h.key, h.nonce, h.keyed, h.mac⟩

/-- R101, R110: the registers after a successful `INIT` with the payload `p`. -/
structure Installs (p : List Byte) (s t : State) : Prop where
  key   : t.key = keyOf p
  nonce : t.nonce = nonceOf p
  keyed : t.keyed = true
  ctr   : t.ctr = 0
  mac   : t.mac = s.mac

/-- R101 to R103, R120, R138: what the command `i` does to key, nonce, counter, `keyed` and `mac`,
from `s` to `t`. -/
inductive CommandWrites (s t : State) : Instr → Prop where
  /-- An error, or a command accepted to be served later. -/
  | nothing {i : Instr} (keeps : KeepsKey s t) (ctr : t.ctr = s.ctr) : CommandWrites s t i
  | init (din : 48 ≤ s.port.din.length) (rsp : s.port.rspReady = true)
      (installs : Installs (s.port.din.take 48) s t) : CommandWrites s t (.init 32 16)
  | reset (keeps : KeepsKey s t) (ctr : t.ctr = 0) : CommandWrites s t .reset
  | genblock (keyed : s.keyed = true) (dout : s.port.doutReady = true)
      (rsp : s.port.rspReady = true) (keeps : KeepsKey s t) (ctr : t.ctr = s.ctr + 1) :
      CommandWrites s t .genblock
  | xorks {len : Nat} (keyed : s.keyed = true) (din : len ≤ s.port.din.length)
      (dout : len = 0 ∨ s.port.doutReady = true) (rsp : s.port.rspReady = true)
      (keeps : KeepsKey s t) (ctr : t.ctr = s.ctr + BitVec.ofNat 64 ((len + 63) / 64)) :
      CommandWrites s t (.xorks len)

/-- R14, R163: a command writes nothing, or what it writes when it is served. -/
theorem CommandWrites.atOnce {i : Instr} {nIn nOut : Nat} {now : State → State} {t : Task} {s : State}
    (hnow : s.served nIn nOut = true → CommandWrites s (now s) i) :
    CommandWrites s (s.atOnce nIn nOut now t) i :=
  State.atOnce_cases (P := (CommandWrites s · i)) hnow (.nothing ⟨rfl, rfl, rfl, rfl⟩ rfl)

/-- R138: an error writes no register. -/
theorem error_writes (r : Response) (n : Nat) (s : State) :
    KeepsKey s (s.atOnce n 0 (.raise r n) (.discard n r)) ∧
      (s.atOnce n 0 (.raise r n) (.discard n r)).ctr = s.ctr :=
  State.atOnce_cases (P := fun t => KeepsKey s t ∧ t.ctr = s.ctr)
    (fun _ => ⟨⟨rfl, rfl, rfl, rfl⟩, rfl⟩) ⟨⟨rfl, rfl, rfl, rfl⟩, rfl⟩

theorem CommandWrites.error (i : Instr) (r : Response) (n : Nat) (s : State) :
    CommandWrites s (s.atOnce n 0 (.raise r n) (.discard n r)) i :=
  .nothing (error_writes r n s).1 (error_writes r n s).2

theorem genblockNow_keepsKey (s : State) :
    KeepsKey s s.genblockNow ∧ s.genblockNow.ctr = s.ctr + 1 := by
  obtain ⟨m, out, h⟩ := genblockNow_frame s
  rw [h]
  exact ⟨⟨rfl, rfl, rfl, rfl⟩, rfl⟩

theorem xorksNow_keepsKey (len : Nat) (s : State) : KeepsKey s (s.xorksNow len) ∧
    (s.xorksNow len).ctr = s.ctr + BitVec.ofNat 64 ((len + 63) / 64) := by
  obtain ⟨m, n, ph, r, out, h⟩ := xorksNow_frame len s
  rw [h]
  exact ⟨⟨rfl, rfl, rfl, rfl⟩, rfl⟩

/-- R101 to R103, R120, R138: what each command writes. -/
theorem exec_writes {i : Instr} {s t : State} (hE : i ≠ .rndE) (hO : i ≠ .rndO)
    (h : exec i s = .next t) : CommandWrites s t i := by
  cases i with
  | init klen nlen =>
    rw [exec, execInit_eq] at h
    cases h
    split
    case isTrue hl =>
      obtain ⟨rfl, rfl⟩ := lengthsRight_iff.mp hl
      refine .atOnce fun hserved => ?_
      obtain ⟨hdin, -, hrsp⟩ := served_iff.mp hserved
      exact .init hdin hrsp ⟨rfl, rfl, rfl, rfl, rfl⟩
    case isFalse => exact .error ..
  | reset =>
    rw [exec, execReset_eq] at h
    cases h
    exact State.atOnce_cases (P := (CommandWrites s · .reset)) (fun _ => .reset ⟨rfl, rfl, rfl, rfl⟩ rfl)
      (.reset ⟨rfl, rfl, rfl, rfl⟩ rfl)
  | genblock =>
    rw [exec, execGenblock_eq] at h
    cases h
    split
    case isTrue hk =>
      refine .atOnce fun hserved => ?_
      obtain ⟨-, hdout, hrsp⟩ := served_iff.mp hserved
      obtain ⟨hkeeps, hctr⟩ := genblockNow_keepsKey s
      exact .genblock hk (hdout.resolve_left (by decide)) hrsp hkeeps hctr
    case isFalse => exact .error ..
  | xorks len =>
    rw [exec, execXorks_eq] at h
    cases h
    split
    case isTrue hk =>
      refine .atOnce fun hserved => ?_
      obtain ⟨hdin, hdout, hrsp⟩ := served_iff.mp hserved
      obtain ⟨hkeeps, hctr⟩ := xorksNow_keepsKey len s
      exact .xorks hk hdin hdout hrsp hkeeps hctr
    case isFalse => exact .error ..
  | rndE => exact absurd rfl hE
  | rndO => exact absurd rfl hO

/-! ### The registers a step writes -/

/-- R31: of the micro-steps only the last of an `INIT` writes key, nonce, counter or `keyed`. -/
theorem progress_writes (t : Task) (s : State) :
    (KeepsKey s (s.progress t) ∧ (s.progress t).ctr = s.ctr) ∨
      ∃ p, t = .takeInit 0 p ∧ Installs p s (s.progress t) := by
  cases t with
  | discard left r =>
    rw [State.progress, State.progressDiscard.eq_def]
    split <;> exact .inl ⟨⟨rfl, rfl, rfl, rfl⟩, rfl⟩
  | takeInit left got =>
    rw [State.progress, State.progressInit.eq_def]
    split
    · exact .inr ⟨got, rfl, ⟨rfl, rfl, rfl, rfl, rfl⟩⟩
    · exact .inl ⟨⟨rfl, rfl, rfl, rfl⟩, rfl⟩
    · exact .inl ⟨⟨rfl, rfl, rfl, rfl⟩, rfl⟩
  | genblock => exact .inl ⟨⟨rfl, rfl, rfl, rfl⟩, rfl⟩
  | chunk off len =>
    rw [State.progress, State.progressChunk]
    split <;> exact .inl ⟨⟨rfl, rfl, rfl, rfl⟩, rfl⟩
  | takeSrc off len left got =>
    rw [State.progress, State.progressSrc.eq_def]
    split <;> exact .inl ⟨⟨rfl, rfl, rfl, rfl⟩, rfl⟩
  | emit bytes resume =>
    rw [State.progress, State.progressEmit.eq_def]
    split
    · split <;> exact .inl ⟨⟨rfl, rfl, rfl, rfl⟩, rfl⟩
    · split <;> exact .inl ⟨⟨rfl, rfl, rfl, rfl⟩, rfl⟩
  | respond r =>
    rw [State.progress]
    split <;> exact .inl ⟨⟨rfl, rfl, rfl, rfl⟩, rfl⟩

/-- R23, R109: the ways in which `ctr` moves, the completion of an `INIT` apart. -/
inductive CtrMoves (s t : State) : Prop where
  | keeps (ctr : t.ctr = s.ctr)
  | reset (idle : s.Idle) (cmd : s.port.cmd.head? = some 0x20000000#32) (ctr : t.ctr = 0)
  | round (phase : s.phase = .gen) (rnd : s.rnd = 31) (ctr : t.ctr = s.ctr + 1)
  | genblock (idle : s.Idle) (keyed : s.keyed = true) (dout : s.port.doutReady = true)
      (rsp : s.port.rspReady = true) (cmd : s.port.cmd.head? = some 0x30000000#32)
      (ctr : t.ctr = s.ctr + 1)
  | xorks (len : Nat) (len_lt : len < 2 ^ 28) (idle : s.Idle) (keyed : s.keyed = true)
      (din : len ≤ s.port.din.length) (dout : len = 0 ∨ s.port.doutReady = true)
      (rsp : s.port.rspReady = true)
      (cmd : s.port.cmd.head? = some (0x4#4 ++ BitVec.ofNat 28 len))
      (ctr : t.ctr = s.ctr + BitVec.ofNat 64 ((len + 63) / 64))

/-- R110: what the step that takes the word `w` of a command writes. -/
theorem command_writes {s t : State} {w : BitVec 32} {ws : List (BitVec 32)} {i : Instr}
    (hs : s.Idle) (hc : s.port.cmd = w :: ws) (hd : decodeWord w = .ok i)
    (h : exec i (s.withCmd ws) = .next t) :
    (KeepsKey s t ∧ CtrMoves s t) ∨ ∃ p, s.completesInit p ∧ Installs p s t := by
  obtain ⟨hE, hO⟩ := decodeWord_ne_micro hd
  obtain ⟨hw, hi⟩ := encode_of_decodeWord hd
  have hhead : ∀ {v : BitVec 32}, encode i = .word v → s.port.cmd.head? = some v := fun hv => by
    rw [hc, List.head?_cons, Encoding.word.inj (hw.symm.trans hv)]
  cases exec_writes hE hO h with
  | nothing keeps ctr => exact .inl ⟨keeps.of_withCmd, .keeps ctr⟩
  | init din rsp installs =>
    exact .inr ⟨_, .inr ⟨hs, hhead rfl, din, rsp, rfl⟩,
      installs.key, installs.nonce, installs.keyed, installs.ctr, installs.mac⟩
  | reset keeps ctr => exact .inl ⟨keeps.of_withCmd, .reset hs (hhead rfl) ctr⟩
  | genblock keyed dout rsp keeps ctr =>
    exact .inl ⟨keeps.of_withCmd, .genblock hs keyed dout rsp (hhead rfl) ctr⟩
  | @xorks len keyed din dout rsp keeps ctr =>
    have hlen : len < 2 ^ 28 := by simpa [Instr.wellFormed] using hi
    exact .inl ⟨keeps.of_withCmd, .xorks len hlen hs keyed din dout rsp (hhead rfl) ctr⟩

/-- R21 to R25, R28: what a step without hardware reset writes of key, nonce, counter, `keyed` and
`mac`. -/
theorem step_writes {s t : State} (hr : s.port.rst = false) (h : step s = .next t) :
    (KeepsKey s t ∧ CtrMoves s t) ∨ ∃ p, s.completesInit p ∧ Installs p s t := by
  rcases step_cases s with ⟨hr', -⟩ | ⟨-, -, -, hs⟩ | ⟨-, hp, hl, hs⟩ | ⟨k, -, hp, hk, hs⟩ |
    ⟨-, -, -, -, hs⟩ | ⟨w, ws, i, -, hp, ht, hb, hc, hd, hs⟩ | ⟨w, ws, e, -, -, -, -, -, -, hs⟩
  · simp [hr] at hr'
  all_goals rw [hs] at h
  case inr.inr.inr.inr.inr.inl => exact command_writes ⟨hr, hp, hb, ht⟩ hc hd h
  all_goals cases h
  · exact .inl ⟨⟨rfl, rfl, rfl, rfl⟩, .keeps rfl⟩
  · exact .inl ⟨⟨rfl, rfl, rfl, rfl⟩, .round hp (lastRound_iff.mp hl) rfl⟩
  · rcases progress_writes k s with ⟨hkeeps, hctr⟩ | ⟨p, rfl, hinst⟩
    · exact .inl ⟨hkeeps, .keeps hctr⟩
    · exact .inr ⟨p, .inl ⟨hr, hp, hk⟩, hinst⟩
  · exact .inl ⟨⟨rfl, rfl, rfl, rfl⟩, .keeps rfl⟩
  · obtain ⟨keeps, hctr⟩ := error_writes .illegalCommand 0 (s.withCmd ws)
    exact .inl ⟨keeps.of_withCmd, .keeps hctr⟩

/-! ### Key, nonce, `keyed`, counter and `mac` -/

/-- R62: an `INIT` completes with 48 payload bytes. -/
theorem completesInit_length {s : State} {p : List Byte} (h : s.completesInit p) (hinv : s.Inv) :
    p.length = 48 := by
  rcases h with ⟨-, -, ht⟩ | ⟨-, -, hdin, -, rfl⟩
  · obtain ⟨-, hsound, -⟩ := hinv.of_task ht
    simpa using sound_takeInit_iff.mp hsound
  · exact List.length_take_of_le hdin

/-- Settles O37: a step that does not complete an `INIT` keeps key and nonce. -/
theorem keyWrittenOnlyByInitOrReset : Obligations.KeyWrittenOnlyByInitOrReset := by
  intro s t h hne
  refine (Bool.eq_false_or_eq_true s.port.rst).imp_right fun hr => ?_
  rcases step_writes hr h with ⟨keeps, -⟩ | ⟨p, hp, installs⟩
  · exact (hne.elim (· keeps.key) (· keeps.nonce)).elim
  · exact ⟨p, hp, installs.key, installs.nonce, completesInit_length hp⟩

/-- R150, R152: hardware reset. -/
theorem step_of_rst {s : State} (hr : s.port.rst = true) : step s = .next s.hardwareReset :=
  step_of_goes (by simp [State.fetch, hr])

/-- Settles O38: a step keeps `keyed`, completes an `INIT`, or is the hardware reset. -/
theorem keyedSetByInitClearedByReset : Obligations.KeyedSetByInitClearedByReset := by
  intro s t h
  cases hr : s.port.rst with
  | true =>
    obtain rfl : s.hardwareReset = t := Host.Outcome.next.inj ((step_of_rst hr).symm.trans h)
    exact ⟨fun _ _ => rfl, fun _ hk => nomatch hk⟩
  | false =>
    rcases step_writes hr h with ⟨keeps, -⟩ | ⟨p, hp, installs⟩
    · rw [keeps.keyed]
      exact ⟨fun ht hf => by simp [ht] at hf, fun hf ht => by simp [ht] at hf⟩
    · exact ⟨fun _ hf => by simp [installs.keyed] at hf, fun _ _ => ⟨p, hp⟩⟩

/-- Settles O39, by the ways in which the counter moves. -/
theorem counterLifecycle : Obligations.CounterLifecycle := by
  intro s t hr h
  rcases step_writes hr h with ⟨-, moves⟩ | ⟨p, hp, installs⟩
  case inr => exact .inr (.inl ⟨installs.ctr, .inl ⟨p, hp⟩⟩)
  cases moves with
  | keeps ctr => exact .inl ctr
  | reset idle cmd ctr => exact .inr (.inl ⟨ctr, .inr ⟨idle, cmd⟩⟩)
  | round phase rnd ctr => exact .inr (.inr (.inl ⟨ctr, .inl ⟨phase, rnd⟩⟩))
  | genblock idle keyed dout rsp cmd ctr =>
    exact .inr (.inr (.inl ⟨ctr, .inr ⟨idle, keyed, dout, rsp, cmd⟩⟩))
  | xorks len len_lt idle keyed din dout rsp cmd ctr =>
    exact .inr (.inr (.inr ⟨len, len_lt, idle, keyed, din, dout, rsp, cmd, ctr⟩))

/-- Settles O40: neither a command nor a micro-step writes `mac`. -/
theorem deadStateIsNeverWritten : Obligations.DeadStateIsNeverWritten := by
  intro s t hr h
  rcases step_writes hr h with ⟨keeps, -⟩ | ⟨p, -, installs⟩
  · exact keeps.mac
  · exact installs.mac

end Sys2Proof.Machine
end

section
/-! Scope: the micro-sequence of a block against the formulas of the spec (spec/10_state.md R31;
41_round.md R91, R92; 42_cipher_fsm.md R104 to R108; 20_memory.md R44). -/

namespace Sys2Proof.Machine

/-! ### The operations of a block as formulas -/

theorem toList_eq_ofFn {α : Type} {n : Nat} (v : Vector α n) :
    v.toList = List.ofFn fun i : Fin n => v[i] :=
  List.ext_getElem (by simp) fun i _ _ => by simp

/-- R91, R96: the even schedule gives the statement list of the even round. -/
theorem round_even (s : Slots) : round .even s = evenRound s := by
  refine Vector.ext fun i hi => ?_
  interval_cases i <;> simp [round, schedule, evenSchedule, rowValue, evenRound]

/-- R92, R96: the odd schedule gives the statement list of the odd round. -/
theorem round_odd (s : Slots) : round .odd s = oddRound s := by
  refine Vector.ext fun i hi => ?_
  interval_cases i <;> simp [round, schedule, oddSchedule, rowValue, oddRound]

/-- R104: the configured slots are those of the state load. -/
theorem initialState_eq (key : Words 4) (nonce : Words 2) (ctr : Word) :
    initialState key nonce ctr = loadedState key nonce ctr := by
  rw [initialState, toList_eq_ofFn key, toList_eq_ofFn nonce]
  refine Vector.ext fun i hi => ?_
  interval_cases i <;> simp [place, loadedState]

/-- R68, R94: five bits of a round index tell its parity. -/
theorem parityOf_ofNat (n : Nat) :
    parityOf (BitVec.ofNat 5 n) = if n % 2 = 0 then .even else .odd := by
  have hbit : (BitVec.ofNat 5 n).getLsbD 0 = decide (n % 2 = 1) := by
    rw [BitVec.getLsbD_ofNat, Nat.testBit_zero]; rfl
  rw [parityOf, hbit]
  rcases Nat.mod_two_eq_zero_or_one n with h | h <;> simp [h]

/-- R94, R105: the round with index `n` is the last of `n + 1` rounds. -/
theorem round_afterRounds (n : Nat) (s : Words 8) :
    round (parityOf (BitVec.ofNat 5 n)) (afterRounds n s) = afterRounds (n + 1) s := by
  have hsucc : afterRounds (n + 1) s =
      if n % 2 = 0 then evenRound (afterRounds n s) else oddRound (afterRounds n s) := by
    simp [afterRounds, List.range_succ]
  rw [parityOf_ofNat, hsucc]
  split
  · exact round_even _
  · exact round_odd _

/-- R44, R81: the bytes of word `i` of a block. -/
theorem w2b_eq_blockByte (v : Words 8) (i : Fin 8) :
    w2b v[i] = List.ofFn fun j : Fin 8 => blockByte v ⟨i.val * 8 + j.val, by omega⟩ := by
  refine List.ext_getElem (by simp) fun j h _ => ?_
  have hj : j < 8 := by simpa using h
  have hdiv : (i.val * 8 + j) / 8 = i.val := by omega
  have hmod : (i.val * 8 + j) % 8 = j := by omega
  rw [List.getElem_ofFn]
  apply BitVec.eq_of_toNat_eq
  simp [w2b, blockByte, hdiv, hmod, Nat.shiftRight_eq_div_pow]

/-- R44, R84: the bytes of a serialised block. -/
theorem words2buf_eq_blockByte (v : Words 8) : words2buf v = List.ofFn (blockByte v) := by
  rw [List.ofFn_mul (m := 8) (n := 8), words2buf, List.flatMap_def, toList_eq_ofFn, List.map_ofFn]
  exact congrArg List.flatten (List.ofFn_inj.mpr (funext (w2b_eq_blockByte v)))

/-! ### The micro-steps of a block -/

/-- R104, R105: the state after the load and `n` rounds. -/
theorem stateLoad_rounds (n : Nat) (s : State) : s.stateLoad.rounds n = { s with
    phase := .gen, rnd := BitVec.ofNat 5 n
    ms := afterRounds n (loadedState s.key s.nonce s.ctr)
    ns := if n = 0 then s.ns else afterRounds n (loadedState s.key s.nonce s.ctr) } := by
  induction n with
  | zero =>
    have hload : initialState s.key s.nonce s.ctr = loadedState s.key s.nonce s.ctr :=
      initialState_eq s.key s.nonce s.ctr
    rw [State.rounds, State.stateLoad, hload]
    rfl
  | succ n ih =>
    rw [rounds_succ_eq, ih]
    simp only [State.roundStep, round_afterRounds, BitVec.ofNat_add]
    rfl

/-- R27, R105: `n` steps in a block are its first `n` rounds, up to round 31. -/
theorem stepTimes_of_gen {s : State} (hr : s.port.rst = false) (hp : s.phase = .gen)
    (h0 : s.rnd = 0) {n : Nat} (hn : n ≤ 32) :
    stepTimes n s = .next (if n = 32 then (s.rounds n).finishBlock else s.rounds n) := by
  induction n with
  | zero => rfl
  | succ n ih =>
    have hrnd : (s.rounds n).rnd = BitVec.ofNat 5 n := by
      rw [rounds_rnd, h0]; exact BitVec.zero_add _
    have hlast : BitVec.ofNat 5 n = 31 ↔ n + 1 = 32 := by
      have hval : (31 : BitVec 5).toNat = 31 := rfl
      rw [← BitVec.toNat_inj, BitVec.toNat_ofNat, hval]
      omega
    rw [stepTimes_succ_of_stepTimes ((ih (by omega)).trans (by rw [if_neg (by omega)])),
      step_of_gen (by rw [rounds_port]; exact hr) (by rw [rounds_phase]; exact hp), rounds_succ_eq]
    simp only [hrnd, hlast]

/-- Settles O33: the load is one step, and each round another. -/
theorem blockMicroSequence : Obligations.BlockMicroSequence := by
  intro s hr hp ht
  have hload : step s = .next s.stateLoad := step_of_task hr hp ht
  have hrun : ∀ n ≤ 32, stepTimes (1 + n) s = .next
      (if n = 32 then (s.stateLoad.rounds n).finishBlock else s.stateLoad.rounds n) := fun n hn => by
    rw [Nat.add_comm, stepTimes_succ_of_step hload]
    exact stepTimes_of_gen (s := s.stateLoad) hr rfl rfl hn
  refine ⟨fun n hn => ?_, ?_⟩
  · rw [hrun n hn.le, if_neg hn.ne, stateLoad_rounds]
  · rw [hrun 32 le_rfl, if_pos rfl, stateLoad_rounds, State.finishBlock]
    simp only [ht, State.blockBytes, words2buf_eq_blockByte]
    rfl

end Sys2Proof.Machine
end

section
/-! Scope: `ns`, `mac` and a dead `ms` influence nothing later (spec/10_state.md R24, R25, R34;
42_cipher_fsm.md R108). -/

namespace Sys2Proof.Machine

/-! ### The step of a unit, from what it is doing -/

/-- U14: with no task, a unit that is busy, or is offered no command word, waits. -/
theorem step_of_wait {s : State} (hr : s.port.rst = false) (hp : s.phase = .idle)
    (ht : s.task = none) (hw : s.busy = true ∨ s.port.cmd = []) : step s = .next s := by
  refine step_of_goes ?_
  rcases hw with hb | hc
  · simp [State.fetch, hr, hp, ht, hb]
  · cases hb : s.busy <;> simp [State.fetch, State.fetchCommand, hr, hp, ht, hb, hc]

/-- R27, R105: a round that is not the last of its block. -/
theorem step_of_round {s : State} (hr : s.port.rst = false) (hp : s.phase = .gen)
    (hl : s.lastRound = false) : step s = .next (s.roundStep (parityOf s.rnd)) := by
  rw [step_of_gen hr hp, if_neg fun he => by simp [lastRound_iff.mpr he] at hl]

/-- R27, R106: the last round of a block. -/
theorem step_of_lastRound {s : State} (hr : s.port.rst = false) (hp : s.phase = .gen)
    (hl : s.lastRound = true) : step s = .next (s.roundStep (parityOf s.rnd)).finishBlock := by
  rw [step_of_gen hr hp, if_pos (lastRound_iff.mp hl)]

/-- R135: an idle unit that is offered an illegal word. -/
theorem step_of_illegal {s : State} {w : BitVec 32} {ws : List (BitVec 32)} {e : DecodeError}
    (hs : s.Idle) (hc : s.port.cmd = w :: ws) (hd : decodeWord w = .error e) :
    step s = .next (s.withCmd ws).illegal :=
  step_of_goes (by
    simp [State.fetch, State.fetchCommand, hs.rst, hs.phase, hs.task, hs.busy, hc, hd])

/-! ### States that differ in what is hidden -/

/-- R24: the task combines a chunk with the block in `ms`. -/
def Task.readsMs : Task → Bool
  | .takeSrc _ _ _ _ => true
  | .discard _ _     => false
  | .takeInit _ _    => false
  | .genblock        => false
  | .chunk _ _       => false
  | .emit _ _        => false
  | .respond _       => false

theorem msLive_eq (s : State) :
    s.msLive = (s.phase == .gen || s.task.any Task.readsMs) := by
  rw [State.msLive]
  rcases s.task with _ | t
  · rfl
  · cases t <;> rfl

/-- R24, R25, R108: what no later behaviour may depend on; `ms` only where it is dead. -/
structure Hidden where
  ms    : Slots
  ns    : Slots
  mac   : Words 2
  fresh : Nat

/-- The state with other hidden values. -/
def State.hide (x : Hidden) (s : State) : State :=
  { s with ms := x.ms, ns := x.ns, mac := x.mac, fresh := x.fresh }

/-- R24: two states that differ in what is hidden only, and not in a live `ms`. -/
def Alike (s t : State) : Prop := ∃ x, t = s.hide x ∧ (s.msLive = true → x.ms = s.ms)

theorem alike_of_known_eq {s t : State} (h : s.known = t.known) : Alike s t := by
  have hhide : t = s.hide ⟨t.ms, t.ns, t.mac, t.fresh⟩ := by
    cases s
    cases t
    simp only [State.known, State.mk.injEq] at h
    simp [State.hide, h]
  have hlive : t.msLive = s.msLive := by rw [hhide]; rfl
  have hms : (if s.msLive then s.ms else _) = if t.msLive then t.ms else _ := congrArg State.ms h
  refine ⟨_, hhide, fun hl => ?_⟩
  simpa [hlive, hl] using hms.symm

theorem known_eq_of_alike {s t : State} (h : Alike s t) : s.known = t.known := by
  obtain ⟨x, rfl, hx⟩ := h
  have hms : (if s.msLive then s.ms else Vector.replicate 8 0) =
      if s.msLive then x.ms else Vector.replicate 8 0 := by
    split
    case isTrue hl => exact (hx hl).symm
    case isFalse => rfl
  exact congrArg (fun m => { s with
    ns := Vector.replicate 8 0, mac := Vector.replicate 2 0, fresh := 0, ms := m }) hms

/-- R24: outside a block only a chunk about to be combined keeps `ms` live. -/
theorem alike_of_dead {s : State} (hp : s.phase = .idle) (ht : s.task.any Task.readsMs = false)
    (x : Hidden) : Alike s (s.hide x) :=
  ⟨x, rfl, fun hlive => by simp [msLive_eq, hp, ht] at hlive⟩

/-! ### The operations, on states alike -/

theorem rounds_hide (k : Nat) {s : State} {x : Hidden} (hx : x.ms = s.ms) :
    ∃ y, (s.hide x).rounds k = (s.rounds k).hide y ∧ y.ms = (s.rounds k).ms := by
  induction k generalizing s x with
  | zero => exact ⟨x, rfl, hx⟩
  | succ k ih =>
    have hround : round (parityOf s.rnd) x.ms = (s.roundStep (parityOf s.rnd)).ms := by
      rw [State.roundStep_ms, hx]
    exact ih (x := ⟨_, _, x.mac, x.fresh⟩) hround

/-- R104, R108: a block generation reads neither `ms` nor `ns`. -/
theorem genBlock_hide (s : State) (x : Hidden) :
    ∃ y, (s.hide x).genBlock = s.genBlock.hide y ∧ y.ms = s.genBlock.ms := by
  have hload : (s.hide x).stateLoad = s.stateLoad.hide { x with ms := s.stateLoad.ms } := rfl
  have hfinish : ∀ (u : State) (y : Hidden), (u.hide y).finish = u.finish.hide y := fun _ _ => rfl
  obtain ⟨y, h, hy⟩ := rounds_hide params.rounds
    (s := s.stateLoad) (x := { x with ms := s.stateLoad.ms }) rfl
  exact ⟨y, by rw [State.genBlock, State.genBlock, hload, h, hfinish], hy⟩

theorem blockBytes_hide {s : State} {x : Hidden} (hx : x.ms = s.ms) :
    (s.hide x).blockBytes = s.blockBytes := congrArg words2buf hx

theorem deliver_hide (bytes : List Byte) (s : State) (x : Hidden) :
    (s.hide x).deliver bytes = (s.deliver bytes).hide x := rfl

theorem applyChunks_hide (k : Nat) (src : List Byte) (s : State) (x : Hidden) :
    ∃ y, (s.hide x).applyChunks k src = (s.applyChunks k src).hide y := by
  induction k generalizing src s x with
  | zero => exact ⟨x, rfl⟩
  | succ k ih =>
    obtain ⟨y, h, hy⟩ := genBlock_hide s x
    rw [applyChunks_succ, applyChunks_succ, h, blockBytes_hide hy, deliver_hide]
    exact ih ..

theorem answer_alike {s : State} (hp : s.phase = .idle) (r : Response) (x : Hidden) :
    Alike (s.answer r) ((s.hide x).answer r) :=
  alike_of_dead (s := s.answer r) hp rfl x

theorem genblockNow_alike (s : State) (x : Hidden) :
    Alike s.genblockNow (s.hide x).genblockNow := by
  obtain ⟨y, h, hy⟩ := genBlock_hide s x
  rw [State.genblockNow, State.genblockNow, h, blockBytes_hide hy, deliver_hide]
  exact answer_alike (by rw [State.deliver_phase, genBlock_phase]) ..

theorem xorksNow_alike {s : State} (hp : s.phase = .idle) (len : Nat) (x : Hidden) :
    Alike (s.xorksNow len) ((s.hide x).xorksNow len) := by
  obtain ⟨y, h⟩ := applyChunks_hide (chunkCount len) (memRead s.port.din 0 len) s x
  have hdin : (s.hide x).port.din = s.port.din := rfl
  have hconsume : ∀ u : State, (u.hide y).consume len = (u.consume len).hide y := fun _ => rfl
  rw [State.xorksNow, State.xorksNow, hdin, h, hconsume]
  exact answer_alike (by rw [State.consume_phase, applyChunks_phase hp]) ..

/-! ### The commands and the micro-steps, on states alike -/

theorem atOnce_alike {nIn nOut : Nat} {now : State → State} {t : Task} {s : State} {x : Hidden}
    (hp : s.phase = .idle) (ht : t.readsMs = false) (hnow : Alike (now s) (now (s.hide x))) :
    Alike (s.atOnce nIn nOut now t) ((s.hide x).atOnce nIn nOut now t) := by
  have hserved : (s.hide x).served nIn nOut = s.served nIn nOut := rfl
  rw [State.atOnce, State.atOnce, hserved]
  split
  · exact hnow
  · exact alike_of_dead (s := s.accept t) hp ht x

theorem error_alike {s : State} (hp : s.phase = .idle) (r : Response) (n : Nat) (x : Hidden) :
    Alike (s.atOnce n 0 (.raise r n) (.discard n r))
      ((s.hide x).atOnce n 0 (.raise r n) (.discard n r)) :=
  atOnce_alike hp rfl (answer_alike (s := s.consume n) hp r x)

/-- R108: a command that an idle unit takes reads nothing that is hidden. -/
theorem exec_alike {i : Instr} {s u : State} (hp : s.phase = .idle) (hE : i ≠ .rndE)
    (hO : i ≠ .rndO) (h : exec i s = .next u) (x : Hidden) :
    ∃ v, exec i (s.hide x) = .next v ∧ Alike u v := by
  have hk : (s.hide x).keyed = s.keyed := rfl
  cases i with
  | init klen nlen =>
    rw [exec, execInit_eq] at h
    cases h
    refine ⟨_, execInit_eq .., ?_⟩
    split
    · exact atOnce_alike hp rfl
        (answer_alike (s := (s.install (memRead s.port.din 0 48)).consume 48) hp .ok x)
    · exact error_alike hp ..
  | reset =>
    rw [exec, execReset_eq] at h
    cases h
    exact ⟨_, execReset_eq _,
      atOnce_alike (s := s.clearCtr) hp rfl (answer_alike (s := s.clearCtr) hp .ok x)⟩
  | genblock =>
    rw [exec, execGenblock_eq] at h
    cases h
    refine ⟨_, execGenblock_eq _, ?_⟩
    rw [hk]
    split
    · exact atOnce_alike hp rfl (genblockNow_alike s x)
    · exact error_alike hp ..
  | xorks len =>
    rw [exec, execXorks_eq] at h
    cases h
    refine ⟨_, execXorks_eq .., ?_⟩
    rw [hk]
    split
    · exact atOnce_alike hp rfl (xorksNow_alike hp len x)
    · exact error_alike hp ..
  | rndE => exact absurd rfl hE
  | rndO => exact absurd rfl hO

/-- R60, R66: a micro-step that takes a payload byte, or waits for one, reads nothing hidden. -/
theorem progress_take_alike {t : Task} {next : Byte → Task} {s : State} {x : Hidden}
    (hwait : ∀ {u : State}, u.port.din = [] → u.progress t = u)
    (htake : ∀ {u : State} {b : Byte} {rest : List Byte}, u.port.din = b :: rest →
      u.progress t = (u.consume 1).goOn (next b))
    (hs : Alike s (s.hide x))
    (hnext : ∀ b, Alike ((s.consume 1).goOn (next b)) (((s.consume 1).goOn (next b)).hide x)) :
    Alike (s.progress t) ((s.hide x).progress t) := by
  cases hd : s.port.din with
  | nil => rw [hwait hd, hwait (u := s.hide x) hd]; exact hs
  | cons b rest => rw [htake hd, htake (u := s.hide x) hd]; exact hnext b

/-- R24, R31: a micro-step reads nothing that is hidden, but for a live `ms`. -/
theorem progress_alike {s : State} {t : Task} (hp : s.phase = .idle) (ht : s.task = some t)
    {x : Hidden} (hx : s.msLive = true → x.ms = s.ms) :
    Alike (s.progress t) ((s.hide x).progress t) := by
  have hgoOn : ∀ {u : State}, u.phase = .idle → ∀ {k : Task}, k.readsMs = false →
      Alike (u.goOn k) ((u.hide x).goOn k) := fun {u} hu k hk =>
    alike_of_dead (s := u.goOn k) hu hk x
  have hwait : Alike s (s.hide x) := ⟨x, rfl, hx⟩
  have hload : Alike s.stateLoad (s.hide x).stateLoad := ⟨{ x with ms := _ }, rfl, fun _ => rfl⟩
  cases t with
  | discard left r =>
    cases left with
    | zero => exact hgoOn hp rfl
    | succ k =>
      exact progress_take_alike (fun hd => by simp [State.progress, State.progressDiscard, hd])
        (fun hd => progress_discard_cons hd k r) hwait
        (fun _ => hgoOn (u := s.consume 1) hp rfl)
  | takeInit left got =>
    cases left with
    | zero => exact hgoOn (u := s.install got) hp rfl
    | succ k =>
      exact progress_take_alike (fun hd => by simp [State.progress, State.progressInit, hd])
        (fun hd => progress_takeInit_cons hd k got) hwait
        (fun _ => hgoOn (u := s.consume 1) hp rfl)
  | genblock => exact hload
  | chunk off len =>
    simp only [State.progress, State.progressChunk]
    split
    · exact hload
    · exact hgoOn hp rfl
  | takeSrc off len left got =>
    have hms : x.ms = s.ms := hx (by rw [msLive_eq, ht]; exact Bool.or_true _)
    cases left with
    | zero =>
      simp only [State.progress, State.progressSrc, blockBytes_hide hms]
      exact hgoOn hp rfl
    | succ k =>
      exact progress_take_alike (fun hd => by simp [State.progress, State.progressSrc, hd])
        (fun hd => progress_takeSrc_cons hd off len k got) hwait (fun _ => ⟨x, rfl, fun _ => hms⟩)
  | emit bytes resume =>
    cases bytes with
    | nil => cases resume <;> exact hgoOn hp rfl
    | cons b rest =>
      have hready : (s.hide x).port.doutReady = s.port.doutReady := rfl
      simp only [State.progress, State.progressEmit, hready]
      split
      · exact hgoOn (u := s.deliver [b]) hp rfl
      · exact hwait
  | respond r =>
    have hready : (s.hide x).port.rspReady = s.port.rspReady := rfl
    simp only [State.progress, hready]
    split
    · exact answer_alike hp r x
    · exact hwait

/-! ### The rounds, on states alike -/

theorem roundStep_alike {s : State} {x : Hidden} (hx : x.ms = s.ms) (p : Parity) :
    Alike (s.roundStep p) ((s.hide x).roundStep p) :=
  ⟨⟨_, _, x.mac, x.fresh⟩, rfl, fun _ => congrArg (round p) hx⟩

/-- R106, R112: the finish hands on the block that is in `ms`. -/
theorem finishBlock_alike {s t : State} (hp : s.phase = .gen) (h : Alike s t) :
    Alike s.finishBlock t.finishBlock := by
  obtain ⟨x, rfl, hx⟩ := h
  have hms : x.ms = s.ms := hx (by simp [msLive_eq, hp])
  have hfinish : (s.hide x).finishBlock = s.finishBlock.hide x := by
    rw [State.finishBlock, blockBytes_hide hms]
    rfl
  exact ⟨x, hfinish, fun _ => hms⟩

/-- Settles O52: a step on two states alike is a step on one with other hidden values. -/
theorem hiddenStateIsNeverRead : Obligations.HiddenStateIsNeverRead := by
  intro s t s' hknown hstep
  obtain ⟨x, rfl, hx⟩ := alike_of_known_eq hknown
  suffices h : ∃ t', step (s.hide x) = .next t' ∧ Alike s' t' by
    obtain ⟨t', ht, halike⟩ := h
    exact ⟨t', ht, known_eq_of_alike halike⟩
  have hgen : s.phase = .gen → x.ms = s.ms := fun hp => hx (by simp [msLive_eq, hp])
  rcases step_cases s with ⟨hr, hs⟩ | ⟨hr, hp, hl, hs⟩ | ⟨hr, hp, hl, hs⟩ | ⟨k, hr, hp, hk, hs⟩ |
    ⟨hr, hp, ht, hw, hs⟩ | ⟨w, ws, i, hr, hp, ht, hb, hc, hd, hs⟩ |
    ⟨w, ws, e, hr, hp, ht, hb, hc, hd, hs⟩ <;> rw [hs] at hstep
  case inr.inr.inr.inr.inr.inl =>
    obtain ⟨hE, hO⟩ := decodeWord_ne_micro hd
    obtain ⟨v, hv, halike⟩ := exec_alike (s := s.withCmd ws) hp hE hO hstep x
    exact ⟨v, (step_of_decodes (s := s.hide x) ⟨hr, hp, hb, ht⟩ hc hd).trans hv, halike⟩
  all_goals cases hstep
  · exact ⟨_, step_of_rst (s := s.hide x) hr, ⟨_, _, _, _⟩, rfl, fun _ => rfl⟩
  · exact ⟨_, step_of_round (s := s.hide x) hr hp hl, roundStep_alike (hgen hp) _⟩
  · exact ⟨_, step_of_lastRound (s := s.hide x) hr hp hl,
      finishBlock_alike hp (roundStep_alike (hgen hp) _)⟩
  · exact ⟨_, step_of_task (s := s.hide x) hr hp hk, progress_alike hp hk hx⟩
  · exact ⟨_, step_of_wait (s := s.hide x) hr hp ht hw, x, rfl, hx⟩
  · exact ⟨_, step_of_illegal (s := s.hide x) ⟨hr, hp, hb, ht⟩ hc hd,
      error_alike (s := s.withCmd ws) hp ..⟩

end Sys2Proof.Machine
end

section
/-! Scope: key, nonce, working state and data influence no sequence, counter, response or length
(spec/10_state.md R31, R32; 70_reset_and_hazards.md R162). -/

namespace Sys2Proof.Machine

/-! ### Blanked bytes, tasks and states -/

theorem blankBytes_eq_of_length {a b : List Byte} (h : a.length = b.length) :
    blankBytes a = blankBytes b := congrArg (List.replicate · 0) h

@[simp] theorem blankBytes_nil : blankBytes [] = [] := rfl

@[simp] theorem blankBytes_cons (a : Byte) (b : List Byte) :
    blankBytes (a :: b) = 0 :: blankBytes b := rfl

@[simp] theorem blankBytes_length (b : List Byte) : (blankBytes b).length = b.length := by
  simp [blankBytes]

@[simp] theorem blankBytes_blankBytes (b : List Byte) : blankBytes (blankBytes b) = blankBytes b :=
  blankBytes_eq_of_length (blankBytes_length b)

@[simp] theorem blankBytes_append (a b : List Byte) :
    blankBytes (a ++ b) = blankBytes a ++ blankBytes b := by
  simp [blankBytes]

@[simp] theorem blankBytes_drop (n : Nat) (b : List Byte) :
    blankBytes (b.drop n) = (blankBytes b).drop n := by
  simp [blankBytes]

@[simp] theorem Task.shape_shape (t : Task) : t.shape.shape = t.shape := by
  cases t <;> simp [Task.shape]

@[simp] theorem State.shape_shape (s : State) : s.shape.shape = s.shape := by
  simp [State.shape, Function.comp_def]

/-- R66, R120: what is left of a command when its block is ready depends on the block's length only. -/
theorem afterBlock_shape {block block' : List Byte} (h : block.length = block'.length) (t : Task) :
    (t.shape.afterBlock block').shape = (t.afterBlock block).shape := by
  cases t <;> simp [Task.shape, Task.afterBlock, blankBytes_eq_of_length h]

/-! ### The operations, on blanked states -/

theorem shape_consume (n : Nat) (s : State) : (s.consume n).shape = s.shape.consume n := by
  simp [State.shape, State.consume]

theorem shape_deliver (bytes : List Byte) (s : State) :
    (s.deliver bytes).shape = s.shape.deliver (blankBytes bytes) := by
  simp [State.shape, State.deliver]

theorem shape_answer (r : Response) (s : State) : (s.answer r).shape = s.shape.answer r := rfl

theorem shape_accept (t : Task) (s : State) : (s.accept t).shape = s.shape.accept t.shape := rfl

theorem shape_goOn (t : Task) (s : State) : (s.goOn t).shape = s.shape.goOn t.shape := rfl

theorem shape_withCmd (ws : List (BitVec 32)) (s : State) :
    (s.withCmd ws).shape = s.shape.withCmd ws := rfl

theorem shape_clearCtr (s : State) : s.clearCtr.shape = s.shape.clearCtr := rfl

/-- R101: what an `INIT` writes is data, but for the counter and `keyed`. -/
theorem shape_install (payload : List Byte) (s : State) :
    (s.install payload).shape = { s.shape with ctr := 0, keyed := true } := rfl

theorem shape_stateLoad (s : State) :
    s.stateLoad.shape = { s.shape with phase := .gen, rnd := 0 } := rfl

theorem shape_roundStep (p : Parity) (s : State) :
    (s.roundStep p).shape = { s.shape with rnd := s.shape.rnd + 1 } := rfl

theorem shape_hardwareReset (s : State) :
    s.hardwareReset.shape = { State.reset.shape with port := s.shape.port } := rfl

/-- R106: the finish of a block, whatever the 64 bytes of the block are. -/
theorem shape_finishBlock (s : State) : s.finishBlock.shape = { s.shape with
    ctr := s.shape.ctr + 1, phase := .idle, rnd := 0
    task := s.shape.task.map fun t => (t.afterBlock (List.replicate 64 0)).shape } := by
  have htask : (s.task.map (Task.afterBlock s.blockBytes)).map Task.shape =
      (s.task.map Task.shape).map fun t => (t.afterBlock (List.replicate 64 0)).shape := by
    rw [Option.map_map, Option.map_map]
    exact congrArg (Option.map · s.task) (funext fun t => (afterBlock_shape (by simp) t).symm)
  exact congrArg (fun k => { s.shape with
    ctr := s.shape.ctr + 1, phase := .idle, rnd := 0, task := k }) htask

theorem shape_genBlock (s : State) :
    s.genBlock.shape = { s.shape with ctr := s.shape.ctr + 1, phase := .idle, rnd := 0 } := by
  obtain ⟨m, h⟩ := genBlock_frame s
  rw [h]
  rfl

/-- R120, R162: the chunk loop on two states of one shape, for as many bytes. -/
theorem applyChunks_shape (k : Nat) {src src' : List Byte} (hsrc : src.length = src'.length)
    {s t : State} (h : s.shape = t.shape) :
    (s.applyChunks k src).shape = (t.applyChunks k src').shape := by
  induction k generalizing src src' s t with
  | zero => exact h
  | succ k ih =>
    rw [applyChunks_succ, applyChunks_succ]
    refine ih (by simp [hsrc]) ?_
    rw [shape_deliver, shape_deliver, shape_genBlock, shape_genBlock, h,
      blankBytes_eq_of_length (b := xorBytes (src'.take 64) t.genBlock.blockBytes) (by simp [hsrc])]

theorem shape_raise (r : Response) (n : Nat) (s : State) :
    (s.raise r n).shape = s.shape.raise r n := by
  rw [State.raise, State.raise, shape_answer, shape_consume]

theorem shape_genblockNow (s : State) : s.shape.genblockNow.shape = s.genblockNow.shape := by
  rw [State.genblockNow, State.genblockNow, shape_answer, shape_answer, shape_deliver,
    shape_deliver, shape_genBlock, shape_genBlock, State.shape_shape,
    blankBytes_eq_of_length (b := s.genBlock.blockBytes) (by simp)]

theorem shape_xorksNow (len : Nat) (s : State) :
    (s.shape.xorksNow len).shape = (s.xorksNow len).shape := by
  rw [State.xorksNow, State.xorksNow, shape_answer, shape_answer, shape_consume, shape_consume,
    applyChunks_shape (src' := memRead s.port.din 0 len) _ (by simp [memRead, State.shape])
      s.shape_shape]

/-! ### The commands and the micro-steps, on blanked states -/

/-- R163: whether a command is served is a matter of readiness and lengths. -/
theorem shape_served (nIn nOut : Nat) (s : State) : s.shape.served nIn nOut = s.served nIn nOut := by
  simp [State.served, State.shape]

theorem shape_atOnce {nIn nOut : Nat} {now : State → State} {t : Task} {s : State}
    (hnow : (now s.shape).shape = (now s).shape) :
    (s.shape.atOnce nIn nOut now t).shape = (s.atOnce nIn nOut now t).shape := by
  rw [State.atOnce, State.atOnce, shape_served]
  split
  · exact hnow
  · rw [shape_accept, shape_accept, State.shape_shape]

theorem shape_error (r : Response) (n : Nat) (s : State) :
    (s.shape.atOnce n 0 (.raise r n) (.discard n r)).shape =
      (s.atOnce n 0 (.raise r n) (.discard n r)).shape :=
  shape_atOnce (by rw [shape_raise, shape_raise, State.shape_shape])

/-- R162: a command on a blanked state. -/
theorem exec_shape {i : Instr} {s u : State} (hE : i ≠ .rndE) (hO : i ≠ .rndO)
    (h : exec i s = .next u) : ∃ v, exec i s.shape = .next v ∧ v.shape = u.shape := by
  have hk : s.shape.keyed = s.keyed := rfl
  cases i with
  | init klen nlen =>
    rw [exec, execInit_eq] at h
    cases h
    refine ⟨_, execInit_eq .., ?_⟩
    split
    · refine shape_atOnce ?_
      simp only [State.initNow, shape_answer, shape_consume, shape_install, State.shape_shape]
    · exact shape_error ..
  | reset =>
    rw [exec, execReset_eq] at h
    cases h
    refine ⟨_, execReset_eq _, ?_⟩
    rw [← shape_clearCtr]
    exact shape_atOnce (by rw [shape_answer, shape_answer, State.shape_shape])
  | genblock =>
    rw [exec, execGenblock_eq] at h
    cases h
    refine ⟨_, execGenblock_eq _, ?_⟩
    rw [hk]
    split
    · exact shape_atOnce (shape_genblockNow s)
    · exact shape_error ..
  | xorks len =>
    rw [exec, execXorks_eq] at h
    cases h
    refine ⟨_, execXorks_eq .., ?_⟩
    rw [hk]
    split
    · exact shape_atOnce (shape_xorksNow len s)
    · exact shape_error ..
  | rndE => exact absurd rfl hE
  | rndO => exact absurd rfl hO

/-- R66, R162: a micro-step that takes a payload byte, or waits for one, on a blanked state. -/
theorem progress_take_shape {t t' : Task} {next next' : Byte → Task} (s : State)
    (hwait : ∀ {u : State}, u.port.din = [] → u.progress t = u ∧ u.progress t' = u)
    (htake : ∀ {u : State} {b : Byte} {rest : List Byte}, u.port.din = b :: rest →
      u.progress t = (u.consume 1).goOn (next b) ∧ u.progress t' = (u.consume 1).goOn (next' b))
    (hnext : ∀ b b', (next' b').shape = (next b).shape) :
    (s.shape.progress t').shape = (s.progress t).shape := by
  cases hd : s.port.din with
  | nil =>
    have hd' : s.shape.port.din = [] := by rw [State.shape, hd]; rfl
    rw [(hwait hd).1, (hwait hd').2, State.shape_shape]
  | cons b rest =>
    have hd' : s.shape.port.din = 0 :: blankBytes rest := by rw [State.shape, hd]; rfl
    rw [(htake hd).1, (htake hd').2, shape_goOn, shape_goOn, shape_consume, shape_consume,
      State.shape_shape, hnext b]

/-- R31, R162: a micro-step on a blanked state. -/
theorem progress_shape (t : Task) (s : State) :
    (s.shape.progress t.shape).shape = (s.progress t).shape := by
  have hload : s.shape.stateLoad.shape = s.stateLoad.shape := by
    rw [shape_stateLoad, shape_stateLoad, State.shape_shape]
  have hgoOn : ∀ {k k' : Task}, k'.shape = k.shape → (s.shape.goOn k').shape = (s.goOn k).shape :=
    fun hk => by rw [shape_goOn, shape_goOn, State.shape_shape, hk]
  cases t with
  | discard left r =>
    cases left with
    | zero => exact hgoOn rfl
    | succ n =>
      exact progress_take_shape s
        (fun hd => by simp [State.progress, State.progressDiscard, hd, Task.shape])
        (fun hd => ⟨progress_discard_cons hd n r, progress_discard_cons hd n r⟩) fun _ _ => rfl
  | takeInit left got =>
    cases left with
    | zero =>
      simp only [State.progress, Task.shape, State.progressInit, shape_goOn, shape_install,
        State.shape_shape]
    | succ n =>
      exact progress_take_shape s
        (fun hd => by simp [State.progress, State.progressInit, hd, Task.shape])
        (fun hd => ⟨progress_takeInit_cons hd n got, progress_takeInit_cons hd n _⟩)
        fun b b' => by simp [Task.shape]
  | genblock => exact hload
  | chunk off len =>
    simp only [State.progress, Task.shape, State.progressChunk]
    split
    · exact hload
    · exact hgoOn rfl
  | takeSrc off len left got =>
    cases left with
    | zero =>
      refine hgoOn ?_
      simp [Task.shape, blankBytes_eq_of_length (a := xorBytes (blankBytes got) s.shape.blockBytes)
        (b := xorBytes got s.blockBytes) (by simp)]
    | succ n =>
      exact progress_take_shape s
        (fun hd => by simp [State.progress, State.progressSrc, hd, Task.shape])
        (fun hd => ⟨progress_takeSrc_cons hd off len n got, progress_takeSrc_cons hd off len n _⟩)
        fun b b' => by simp [Task.shape]
  | emit bytes resume =>
    cases bytes with
    | nil => cases resume <;> exact hgoOn rfl
    | cons b rest =>
      have hready : s.shape.port.doutReady = s.port.doutReady := rfl
      simp only [State.progress, Task.shape, blankBytes_cons, State.progressEmit, hready]
      split
      · simp [shape_goOn, shape_deliver, Task.shape]
      · exact s.shape_shape
  | respond r =>
    have hready : s.shape.port.rspReady = s.port.rspReady := rfl
    simp only [State.progress, Task.shape, hready]
    split
    · rw [shape_answer, shape_answer, State.shape_shape]
    · exact s.shape_shape

/-! ### The steps, on blanked states -/

/-- R136, R167: no step stops the machine. -/
theorem step_eq_next (s : State) : ∃ t, step s = .next t := by
  rcases step_cases s with ⟨-, h⟩ | ⟨-, -, -, h⟩ | ⟨-, -, -, h⟩ | ⟨_, -, -, -, h⟩ | ⟨-, -, -, -, h⟩ |
    ⟨w, ws, i, -, -, -, -, -, -, h⟩ | ⟨_, _, _, -, -, -, -, -, -, h⟩
  case inr.inr.inr.inr.inr.inl =>
    rw [h]
    exact exec_eq_next i _
  all_goals exact ⟨_, h⟩

/-- R31, R162: the step of a blanked state is the step of the state, blanked. -/
theorem step_shape {s u : State} (hstep : step s = .next u) :
    ∃ v, step s.shape = .next v ∧ v.shape = u.shape := by
  have hnone : s.task = none → s.shape.task = none := fun ht => by rw [State.shape, ht]; rfl
  rcases step_cases s with ⟨hr, hs⟩ | ⟨hr, hp, hl, hs⟩ | ⟨hr, hp, hl, hs⟩ | ⟨k, hr, hp, hk, hs⟩ |
    ⟨hr, hp, ht, hw, hs⟩ | ⟨w, ws, i, hr, hp, ht, hb, hc, hd, hs⟩ |
    ⟨w, ws, e, hr, hp, ht, hb, hc, hd, hs⟩ <;> rw [hs] at hstep
  case inr.inr.inr.inr.inr.inl =>
    obtain ⟨hE, hO⟩ := decodeWord_ne_micro hd
    obtain ⟨v, hv, hshape⟩ := exec_shape hE hO hstep
    have hidle : s.shape.Idle := ⟨hr, hp, hb, hnone ht⟩
    exact ⟨v, (step_of_decodes hidle hc hd).trans hv, hshape⟩
  all_goals cases hstep
  · refine ⟨_, step_of_rst (s := s.shape) hr, ?_⟩
    rw [shape_hardwareReset, shape_hardwareReset, State.shape_shape]
  · refine ⟨_, step_of_round (s := s.shape) hr hp hl, ?_⟩
    rw [shape_roundStep, shape_roundStep, State.shape_shape]
  · refine ⟨_, step_of_lastRound (s := s.shape) hr hp hl, ?_⟩
    rw [shape_finishBlock, shape_finishBlock, shape_roundStep, shape_roundStep, State.shape_shape]
  · have hk' : s.shape.task = some k.shape := by rw [State.shape, hk]; rfl
    exact ⟨_, step_of_task hr hp hk', progress_shape k s⟩
  · exact ⟨_, step_of_wait (s := s.shape) hr hp (hnone ht) hw, s.shape_shape⟩
  · have hidle : s.shape.Idle := ⟨hr, hp, hb, hnone ht⟩
    exact ⟨_, step_of_illegal hidle hc hd, shape_error .illegalCommand 0 (s.withCmd ws)⟩

/-- Settles O53: two states of one shape step as the blanked state does. -/
theorem controlIgnoresData : Obligations.ControlIgnoresData := by
  intro s t s' h hs
  obtain ⟨t', ht⟩ := step_eq_next t
  obtain ⟨u, hu, hus⟩ := step_shape hs
  obtain ⟨v, hv, hvt⟩ := step_shape ht
  obtain rfl : u = v := by
    rw [h, hv] at hu
    exact (Host.Outcome.next.inj hu).symm
  exact ⟨t', ht, hus.symm.trans hvt⟩

end Sys2Proof.Machine
end

section
/-! Scope: where each byte of a block, of a key buffer and of a nonce buffer stands in its word
(spec/20_memory.md R44). -/

namespace Sys2Proof.Machine

/-! ### Reading a buffer -/

/-- R12, R40: byte `i` of a read is byte `off + i` of the buffer. -/
theorem memRead_getElem? (buf : List Byte) (off : Nat) {n i : Nat} (h : i < n) :
    (memRead buf off n)[i]? = buf[off + i]? := by
  rw [memRead, List.getElem?_take_of_lt h, List.getElem?_drop]

/-! ### The bytes of a word -/

/-- R80: one more byte comes in at the low end. -/
theorem b2w_concat (b : List Byte) (x : Byte) :
    b2w (b ++ [x]) = (b2w b <<< 8) ||| x.setWidth 64 := List.foldl_concat ..

/-- R80: the byte that came in last is the lowest byte of the word. -/
theorem extractLsb'_shiftIn_zero (w : Word) (x : Byte) :
    ((w <<< 8) ||| x.setWidth 64).extractLsb' 0 8 = x := by
  refine BitVec.eq_of_getLsbD_eq fun i hi => ?_
  have hi64 : i < 64 := by omega
  simp [hi, hi64]

/-- R80: a byte that comes in moves every other byte up by one place. -/
theorem extractLsb'_shiftIn_succ (w : Word) (x : Byte) {k : Nat} (hk : k < 7) :
    ((w <<< 8) ||| x.setWidth 64).extractLsb' (8 * (k + 1)) 8 = w.extractLsb' (8 * k) 8 := by
  refine BitVec.eq_of_getLsbD_eq fun i hi => ?_
  have hin : 8 * (k + 1) + i < 64 := by omega
  have hup : ¬ 8 * (k + 1) + i < 8 := by omega
  have hfrom : 8 * (k + 1) + i - 8 = 8 * k + i := by omega
  have hout : x.getLsbD (8 * (k + 1) + i) = false := BitVec.getLsbD_of_ge x _ (by omega)
  simp only [BitVec.getLsbD_extractLsb', BitVec.getLsbD_or, BitVec.getLsbD_shiftLeft,
    BitVec.getLsbD_setWidth, hi, hin, hup, hfrom, hout]
  simp

/-- R80: the bytes of a sequence of at most 8 stand in its word in order, the last one lowest. -/
theorem getElem?_eq_b2w_extractLsb' {b : List Byte} (hb : b.length ≤ 8) {i : Nat}
    (hi : i < b.length) :
    b[i]? = some ((b2w b).extractLsb' (8 * (b.length - 1 - i)) 8) := by
  induction b using List.reverseRecOn with
  | nil => exact absurd hi (Nat.not_lt_zero i)
  | append_singleton b x ih =>
    simp only [List.length_append, List.length_singleton] at hb hi
    rw [b2w_concat, List.length_append, List.length_singleton, Nat.add_sub_cancel]
    rcases Nat.lt_succ_iff_lt_or_eq.mp hi with hlt | rfl
    · obtain ⟨k, hk⟩ : ∃ k, b.length - i = k + 1 := ⟨b.length - i - 1, by omega⟩
      have hplace : b.length - 1 - i = k := by omega
      rw [List.getElem?_append_left hlt, ih (by omega) hlt, hplace, hk,
        extractLsb'_shiftIn_succ _ _ (by omega)]
    · rw [Nat.sub_self, Nat.mul_zero, extractLsb'_shiftIn_zero, List.getElem?_concat_length]

/-! ### The bytes of a buffer -/

/-- R44, R83: byte `j` of a buffer is byte `j mod 8` of word `j div 8`, from the high end. -/
theorem getElem?_eq_buf2words_extractLsb' {n : Nat} {buf : List Byte} (hlen : buf.length = 8 * n)
    (j : Nat) (hj : j / 8 < n) :
    buf[j]? = some ((buf2words n buf)[j / 8].extractLsb' (8 * (7 - j % 8)) 8) := by
  have hword : (memRead buf (8 * (j / 8)) 8).length = 8 := memRead_length (by omega)
  have hmod : j % 8 < 8 := Nat.mod_lt j (by decide)
  calc buf[j]? = (memRead buf (8 * (j / 8)) 8)[j % 8]? := by
        rw [memRead_getElem? _ _ hmod, Nat.div_add_mod]
    _ = some ((b2w (memRead buf (8 * (j / 8)) 8)).extractLsb' (8 * (7 - j % 8)) 8) := by
        rw [getElem?_eq_b2w_extractLsb' hword.le (hword.symm ▸ hmod), hword]
    _ = _ := by simp [buf2words]

/-- Settles O13: the bytes of a block by the serialisation's formula, those of a key and of a nonce
as bytes of the two parts of the payload. -/
theorem mixedWidthView : Obligations.MixedWidthView := by
  refine ⟨fun v k => ?_, fun b j hb => ?_, fun b j hb => ?_⟩
  · rw [words2buf_eq_blockByte, List.getElem?_ofFn, dif_pos k.isLt]
    rfl
  · have hkey : (memRead b 0 32).length = 8 * 4 := memRead_length (by omega)
    have hread : (memRead b 0 32)[j.val]? = b[j.val]? := by
      rw [memRead_getElem? b 0 j.isLt, Nat.zero_add]
    exact hread.symm.trans (getElem?_eq_buf2words_extractLsb' hkey j (by omega))
  · have hnonce : (memRead b 32 16).length = 8 * 2 := memRead_length (by omega)
    have hread : (memRead b 32 16)[j.val]? = b[32 + j.val]? := memRead_getElem? b 32 j.isLt
    exact hread.symm.trans (getElem?_eq_buf2words_extractLsb' hnonce j (by omega))

end Sys2Proof.Machine
end

section
/-! Scope: the encodings: decoding of command words and parities, legal words as the rows of the match
and mask table, response codes, and what a line or a pseudo-operation sends (spec/30_encoding.md R61 to
R68, R72, R73). -/

namespace Sys2Proof.Machine

/-! ### Decoding an encoding -/

/-- R61, R62: the number that an `INIT` word is decodes to its two lengths. -/
theorem decodeWord_of_init_toNat {w : BitVec 32} {klen nlen : Nat} (hk : klen < 2 ^ 8)
    (hn : nlen < 2 ^ 8) (hw : w.toNat = 2 ^ 28 + klen * 2 ^ 8 + nlen) :
    decodeWord w = .ok (.init klen nlen) := by
  have hop : wordField w 28 4 = 1 := by rw [wordField_eq]; omega
  have hreserved : wordField w 16 12 = 0 := by rw [wordField_eq]; omega
  have hklen : wordField w 8 8 = klen := by rw [wordField_eq]; omega
  have hnlen : wordField w 0 8 = nlen := by rw [wordField_eq]; omega
  simp [decodeWord, hop, hreserved, hklen, hnlen]

/-- R61, R63: the number that an `XORKS` word is decodes to its length. -/
theorem decodeWord_of_xorks_toNat {w : BitVec 32} {len : Nat} (hlen : len < 2 ^ 28)
    (hw : w.toNat = 4 * 2 ^ 28 + len) : decodeWord w = .ok (.xorks len) := by
  have hop : wordField w 28 4 = 4 := by rw [wordField_eq]; omega
  have hfield : wordField w 0 28 = len := by rw [wordField_eq]; omega
  simp [decodeWord, hop, hfield]

/-- Settles O1, constructor by constructor: the lengths of `INIT` and `XORKS` are read back from the
number that the word is, and the other encodings are constants. -/
theorem decodeEncodeRoundTrip : Obligations.DecodeEncodeRoundTrip := by
  intro i hi
  cases i with
  | init klen nlen =>
    obtain ⟨hk, hn⟩ : klen < 2 ^ 8 ∧ nlen < 2 ^ 8 := by simpa [Instr.wellFormed] using hi
    exact decodeWord_of_init_toNat hk hn (init_word_toNat hk hn)
  | reset => rfl
  | genblock => rfl
  | xorks len =>
    have hlen : len < 2 ^ 28 := by simpa [Instr.wellFormed] using hi
    exact decodeWord_of_xorks_toNat hlen (xorks_word_toNat hlen)
  | rndE => rfl
  | rndO => rfl

/-- Settles O2: the rule of a word that decodes. -/
theorem legalWordIsItsOwnEncoding : Obligations.LegalWordIsItsOwnEncoding :=
  fun _ _ => encode_of_decodeWord

/-- Settles O4, by evaluating the decoder. -/
theorem writtenOutWordsDecode : Obligations.WrittenOutWordsDecode := by
  refine ⟨?_, ?_, ?_, ?_, ?_, ?_, ?_, ?_, ?_, ?_⟩ <;> rfl

/-! ### The match and mask table -/

/-- R61: a mask that keeps all bits from `k` up compares the word above bit `k`. -/
theorem selects_highMask_iff (w m : BitVec 32) (k : Nat) :
    selects w (m, BitVec.allOnes 32 <<< k) = true ↔ w.toNat / 2 ^ k * 2 ^ k = m.toNat := by
  have hlt : w.toNat / 2 ^ k * 2 ^ k < 2 ^ 32 := (Nat.div_mul_le_self _ _).trans_lt w.isLt
  rw [selects, beq_iff_eq, ← BitVec.shiftLeft_ushiftRight, ← BitVec.toNat_inj, BitVec.toNat_shiftLeft,
    BitVec.toNat_ushiftRight, Nat.shiftRight_eq_div_pow, Nat.shiftLeft_eq, Nat.mod_eq_of_lt hlt]

/-- R61: the masks of the table all keep the bits from some place up. -/
theorem matchMask_eq : matchMask =
    [(0x10000000#32, BitVec.allOnes 32 <<< 16), (0x20000000#32, BitVec.allOnes 32 <<< 0),
     (0x30000000#32, BitVec.allOnes 32 <<< 0), (0x40000000#32, BitVec.allOnes 32 <<< 28)] := rfl

/-- R61: what the rows of the table say of the number that a word is. -/
theorem exists_selects_iff (w : BitVec 32) : (∃ row ∈ matchMask, selects w row = true) ↔
    w.toNat / 2 ^ 16 = 0x1000 ∨ w.toNat = 0x20000000 ∨ w.toNat = 0x30000000 ∨
      w.toNat / 2 ^ 28 = 4 := by
  simp only [matchMask_eq, List.exists_mem_cons_iff, selects_highMask_iff, List.not_mem_nil,
    false_and, exists_false, or_false, BitVec.toNat_ofNat]
  constructor <;> intro h <;> omega

/-- R61, R65: what the decoder asks of the number that a word is. -/
theorem exists_decodeWord_iff (w : BitVec 32) : (∃ i, decodeWord w = .ok i) ↔
    w.toNat / 2 ^ 16 = 0x1000 ∨ w.toNat = 0x20000000 ∨ w.toNat = 0x30000000 ∨
      w.toNat / 2 ^ 28 = 4 := by
  have hw := w.isLt
  unfold decodeWord
  simp only [wordField_eq]
  split_ifs <;> simp only [Except.ok.injEq, exists_eq', exists_false, true_iff, false_iff] <;> omega

/-- R61: a word is a command exactly when it selects a row of the table. -/
theorem exists_decodeWord_iff_exists_selects (w : BitVec 32) :
    (∃ i, decodeWord w = .ok i) ↔ ∃ row ∈ matchMask, selects w row = true :=
  (exists_decodeWord_iff w).trans (exists_selects_iff w).symm

/-- R61: the `op` of a row of the table, as the row's match gives it. -/
def rowOp (row : BitVec 32 × BitVec 32) : Nat := row.1.toNat / 2 ^ 28

/-- R61: a word selects only rows of its own `op`. -/
theorem rowOp_of_selects {w : BitVec 32} :
    ∀ row ∈ matchMask, selects w row = true → rowOp row = w.toNat / 2 ^ 28 := by
  simp only [matchMask_eq, List.forall_mem_cons, selects_highMask_iff, rowOp, BitVec.toNat_ofNat]
  refine ⟨?_, ?_, ?_, ?_, nofun⟩ <;> omega

theorem rowOps_nodup : (matchMask.map rowOp).Nodup := by decide

/-- R61: the rows that a word selects have one `op`, and every row has an `op` of its own. -/
theorem selected_rows_length_le_one (w : BitVec 32) : (matchMask.filter (selects w)).length ≤ 1 := by
  have hone : (matchMask.filter (selects w)).map rowOp =
      List.replicate (matchMask.filter (selects w)).length (w.toNat / 2 ^ 28) := by
    refine List.eq_replicate_iff.mpr ⟨List.length_map .., fun op hop => ?_⟩
    obtain ⟨row, hrow, rfl⟩ := List.mem_map.mp hop
    obtain ⟨hmem, hsel⟩ := List.mem_filter.mp hrow
    exact rowOp_of_selects row hmem hsel
  have hnodup := rowOps_nodup.sublist
    ((List.filter_sublist (p := selects w)).map rowOp)
  rw [hone] at hnodup
  exact List.nodup_replicate.mp hnodup

/-- Settles O3: the decoder and the table ask the same of a word, and the table's rows differ in `op`. -/
theorem legalWordsAreTheTableRows : Obligations.LegalWordsAreTheTableRows :=
  fun w => ⟨exists_decodeWord_iff_exists_selects w, selected_rows_length_le_one w⟩

/-- R65: a word that selects no row of the table is illegal. -/
theorem decodeWord_eq_error {w : BitVec 32} (h : ∀ row ∈ matchMask, selects w row = false) :
    ∃ e, decodeWord w = .error e := by
  cases hd : decodeWord w with
  | error e => exact ⟨e, rfl⟩
  | ok i =>
    obtain ⟨row, hmem, hsel⟩ := (exists_decodeWord_iff_exists_selects w).mp ⟨i, hd⟩
    rw [h row hmem] at hsel
    cases hsel

/-! ### Response codes -/

/-- Settles O30, response by response. -/
theorem responseCodes : Obligations.ResponseCodes :=
  ⟨rfl, rfl, rfl, rfl, fun r => by cases r <;> decide⟩

/-! ### Lines and pseudo-operations -/

/-- R61, R72: the command word of a well-formed instruction decodes to the instruction. -/
theorem decodeWord_of_commandWord {i : Instr} {w : BitVec 32} (hi : i.wellFormed = true)
    (hw : commandWord i = some w) : decodeWord w = .ok i := by
  have hround := decodeEncodeRoundTrip i hi
  cases he : encode i with
  | word v =>
    simp only [commandWord, he, Option.some.injEq] at hw
    rw [he, decode, hw] at hround
    exact hround
  | parity p => simp [commandWord, he] at hw

/-- R66, R72: a line sends as many bytes as its instruction announces. -/
theorem line_payload_length (l : Line) : l.payload.length = payloadLen l.instr := by
  cases l with
  | init key nonce => exact List.length_append
  | _ => rfl

/-- Settles O5: the word of a well-formed instruction decodes to it, and the payload is the line's. -/
theorem lineCommandIsFramed : Obligations.LineCommandIsFramed := by
  intro l c hc
  rw [Line.command] at hc
  split at hc
  case isTrue hi =>
    obtain ⟨w, hw, rfl⟩ := Option.map_eq_some_iff.mp hc
    exact ⟨decodeWord_of_commandWord hi hw, line_payload_length l⟩
  case isFalse => cases hc

/-- R73: the pieces of a buffer, in order, are the buffer. -/
theorem flatten_piecesOf (n fuel : Nat) (b : List Byte) : (piecesOf n fuel b).flatten = b := by
  induction fuel generalizing b with
  | zero => simp [piecesOf]
  | succ fuel ih =>
    rw [piecesOf]
    split
    · simp
    · rw [List.flatten_cons, ih, List.take_append_drop]

theorem piecesOf_ne_nil (n fuel : Nat) (b : List Byte) : piecesOf n fuel b ≠ [] := by
  cases fuel with
  | zero => exact List.cons_ne_nil _ _
  | succ fuel =>
    rw [piecesOf]
    split <;> exact List.cons_ne_nil _ _

/-- R73: every piece but the last has the cut length. -/
theorem length_of_mem_dropLast_piecesOf {n fuel : Nat} {b : List Byte} :
    ∀ p ∈ (piecesOf n fuel b).dropLast, p.length = n := by
  induction fuel generalizing b with
  | zero => exact nofun
  | succ fuel ih =>
    rw [piecesOf]
    split
    case isTrue => exact nofun
    case isFalse hlong =>
      rw [List.dropLast_cons_of_ne_nil (piecesOf_ne_nil n fuel _), List.forall_mem_cons]
      exact ⟨List.length_take_of_le (by omega), ih⟩

/-- R73: with a cut length that is not 0, fuel for every byte is enough to cut the whole buffer. -/
theorem length_le_of_mem_piecesOf {n fuel : Nat} {b : List Byte} (hn : 0 < n)
    (hfuel : b.length ≤ fuel) : ∀ p ∈ piecesOf n fuel b, p.length ≤ n := by
  induction fuel generalizing b with
  | zero =>
    rw [piecesOf, List.forall_mem_singleton]
    omega
  | succ fuel ih =>
    rw [piecesOf]
    split
    case isTrue hshort => exact List.forall_mem_singleton.mpr hshort
    case isFalse =>
      have hrest : (b.drop n).length ≤ fuel := by
        rw [List.length_drop]
        omega
      exact List.forall_mem_cons.mpr ⟨List.length_take_le n b, ih hrest⟩

/-- Settles O6, by induction over the cuts. -/
theorem longBufferPieces : Obligations.LongBufferPieces :=
  fun n b hn => ⟨flatten_piecesOf n _ b, length_of_mem_dropLast_piecesOf,
    length_le_of_mem_piecesOf hn le_rfl⟩

end Sys2Proof.Machine
end

section
/-! Scope: what a step transfers on each channel: the illegal word, the handshake outputs, that
transfers are never undone, and one response per command (spec/30_encoding.md R60, R65, R66;
60_exceptions.md R135, R138). -/

namespace Sys2Proof.Machine

/-! ### The illegal word -/

/-- R138: a failed command with no payload left answers in two micro-steps of a host that takes the
response. -/
theorem stepTimes_discard_zero {s : State} (hr : s.port.rst = false) (hp : s.phase = .idle)
    (hready : s.port.rspReady = true) {r : Response} (ht : s.task = some (.discard 0 r)) :
    stepTimes 2 s = .next (s.answer r) := by
  have hdiscard : step s = .next (s.goOn (.respond r)) := step_of_task hr hp ht
  have hrespond : step (s.goOn (.respond r)) = .next (s.answer r) := by
    rw [step_of_task (s := s.goOn (.respond r)) hr hp rfl, State.progress, State.goOn_port, if_pos hready]
    rfl
  rw [stepTimes_succ_of_step hdiscard, stepTimes_succ_of_step hrespond, stepTimes]

/-- Settles O27: the word does not decode, and `illegal` is an error without payload. -/
theorem illegalWordChangesNothing : Obligations.IllegalWordChangesNothing := by
  intro s w ws hs hc hrow
  obtain ⟨e, he⟩ := decodeWord_eq_error hrow
  have hstep : step s = .next (s.withCmd ws).illegal := step_of_illegal hs hc he
  constructor
  · intro hready
    have hserved : (s.withCmd ws).served 0 0 = true :=
      served_iff.mpr ⟨Nat.zero_le _, .inl rfl, hready⟩
    rw [hstep, State.illegal, fail_of_served hserved, hs.busy, hs.task]
    rfl
  · intro hready
    have hwaits : (s.withCmd ws).served 0 0 = false := by simp [State.served, hready]
    refine ⟨_, hstep.trans (congrArg _ (fail_of_not_served hwaits)), rfl, ?_⟩
    have hanswers := stepTimes_discard_zero (r := .illegalCommand)
      (s := ((s.withCmd ws).accept (.discard 0 .illegalCommand)).setRspReady true)
      hs.rst hs.phase rfl rfl
    rw [hanswers, hs.busy, hs.task]
    rfl

/-! ### What a micro-step transfers -/

/-- R60, R66: the task takes a payload byte next. -/
def Task.takesByte : Task → Bool
  | .discard left _ | .takeInit left _ | .takeSrc _ _ left _ => decide (0 < left)
  | _ => false

/-- R60: the output byte that the task hands over next. -/
def Task.nextByte : Task → Option Byte
  | .emit bytes _ => bytes.head?
  | _ => none

/-- R60: the response that the task hands over next. -/
def Task.response : Task → Option Response
  | .respond r => some r
  | _ => none

theorem dinReady_of_task {s : State} {k : Task} (hr : s.port.rst = false) (hk : s.task = some k) :
    s.dinReady = k.takesByte := by
  rw [State.dinReady, hr, hk]
  cases k <;> rfl

theorem doutOffer_of_task {s : State} {k : Task} (hr : s.port.rst = false) (hk : s.task = some k) :
    s.doutOffer = k.nextByte := by
  rw [State.doutOffer, hr, hk]
  cases k <;> rfl

theorem rspOffer_of_task {s : State} {k : Task} (hr : s.port.rst = false) (hk : s.task = some k) :
    s.rspOffer = k.response.map Response.code := by
  rw [State.rspOffer, hr, hk]
  cases k <;> rfl

/-- R60, R66: from `s` to `t` the task `k` transfers what it has to on each channel where the host is
ready, and the command is over when its response is handed over. -/
structure Transfers (k : Task) (s t : State) : Prop where
  din  : t.port.din = if k.takesByte then s.port.din.drop 1 else s.port.din
  dout : t.port.dout = s.port.dout ++ (if s.port.doutReady then k.nextByte.toList else [])
  rsp  : t.port.rsp = s.port.rsp ++ (if s.port.rspReady then k.response.toList else [])
  busy : t.busy = (s.busy && !(s.port.rspReady && k.response.isSome))

/-- A step that leaves the interface as it is, where the task transfers nothing or waits. -/
theorem Transfers.of_port_eq {k : Task} {s t : State} (hport : t.port = s.port) (hbusy : t.busy = s.busy)
    (hdin : k.takesByte = false ∨ s.port.din = []) (hdout : k.nextByte = none ∨ s.port.doutReady = false)
    (hrsp : k.response = none ∨ s.port.rspReady = false) : Transfers k s t where
  din := by rcases hdin with h | h <;> simp [hport, h]
  dout := by rcases hdout with h | h <;> simp [hport, h]
  rsp := by rcases hrsp with h | h <;> simp [hport, h]
  busy := by rcases hrsp with h | h <;> simp [hbusy, h]

/-- R60, R66: the task takes a payload byte and goes on with `k'`. -/
theorem Transfers.of_take {k : Task} {s : State} (hdin : k.takesByte = true) (hdout : k.nextByte = none)
    (hrsp : k.response = none) (k' : Task) : Transfers k s ((s.consume 1).goOn k') := by
  constructor <;> simp [hdin, hdout, hrsp]

/-- R31, R60: the transfers of a micro-step. -/
theorem progress_transfers (k : Task) (s : State) : Transfers k s (s.progress k) := by
  cases k with
  | discard left r =>
    rw [State.progress, State.progressDiscard.eq_def]
    split
    case h_1 => exact .of_port_eq rfl rfl (.inl rfl) (.inl rfl) (.inl rfl)
    case h_2 hd => exact .of_port_eq rfl rfl (.inr hd) (.inl rfl) (.inl rfl)
    case h_3 => exact .of_take rfl rfl rfl _
  | takeInit left got =>
    rw [State.progress, State.progressInit.eq_def]
    split
    case h_1 => exact .of_port_eq rfl rfl (.inl rfl) (.inl rfl) (.inl rfl)
    case h_2 hd => exact .of_port_eq rfl rfl (.inr hd) (.inl rfl) (.inl rfl)
    case h_3 => exact .of_take rfl rfl rfl _
  | genblock => exact .of_port_eq rfl rfl (.inl rfl) (.inl rfl) (.inl rfl)
  | chunk off len =>
    rw [State.progress, State.progressChunk]
    split <;> exact .of_port_eq rfl rfl (.inl rfl) (.inl rfl) (.inl rfl)
  | takeSrc off len left got =>
    rw [State.progress, State.progressSrc.eq_def]
    split
    case h_1 => exact .of_port_eq rfl rfl (.inl rfl) (.inl rfl) (.inl rfl)
    case h_2 hd => exact .of_port_eq rfl rfl (.inr hd) (.inl rfl) (.inl rfl)
    case h_3 => exact .of_take rfl rfl rfl _
  | emit bytes resume =>
    rw [State.progress, State.progressEmit.eq_def]
    split
    case h_1 =>
      split
      case isTrue hready => constructor <;> simp [Task.takesByte, Task.nextByte, Task.response, hready]
      case isFalse hready =>
        exact .of_port_eq rfl rfl (.inl rfl) (.inr (Bool.eq_false_of_not_eq_true hready)) (.inl rfl)
    case h_2 => split <;> exact .of_port_eq rfl rfl (.inl rfl) (.inl rfl) (.inl rfl)
  | respond r =>
    rw [State.progress]
    split
    case isTrue hready => constructor <;> simp [Task.takesByte, Task.nextByte, Task.response, hready]
    case isFalse hready =>
      exact .of_port_eq rfl rfl (.inl rfl) (.inl rfl) (.inr (Bool.eq_false_of_not_eq_true hready))

/-- R100: while a block is in generation nothing is transferred. -/
theorem transfers_of_generates {k : Task} (hk : k.generates = true) {s t : State}
    (hport : t.port = s.port) (hbusy : t.busy = s.busy) : Transfers k s t := by
  cases k with
  | genblock => exact .of_port_eq hport hbusy (.inl rfl) (.inl rfl) (.inl rfl)
  | chunk off len => exact .of_port_eq hport hbusy (.inl rfl) (.inl rfl) (.inl rfl)
  | _ => cases hk

/-- R60: what any step transfers while a command is in progress, and that it takes no command word. -/
theorem step_transfers {s t : State} {k : Task} (hinv : s.Inv) (hr : s.port.rst = false)
    (hk : s.task = some k) (h : step s = .next t) : Transfers k s t ∧ t.port.cmd = s.port.cmd := by
  cases hp : s.phase with
  | idle =>
    obtain rfl := Host.Outcome.next.inj ((step_of_task hr hp hk).symm.trans h)
    exact ⟨progress_transfers k s, (progress_keepsHost k s).cmd⟩
  | gen =>
    obtain ⟨k', hk', hgen, -, -⟩ := hinv.task_of_gen hp
    obtain rfl : k = k' := Option.some.inj (hk.symm.trans hk')
    obtain rfl := Host.Outcome.next.inj ((step_of_gen hr hp).symm.trans h)
    split <;> exact ⟨transfers_of_generates hgen rfl rfl, rfl⟩

/-- Settles O55: the handshake outputs are those of the task, which transfers what they say. -/
theorem handshakeOutputsMatchTransfers : Obligations.HandshakeOutputsMatchTransfers := by
  intro s t k hinv hr hk h
  obtain ⟨⟨hdin, hdout, hrsp, -⟩, hcmd⟩ := step_transfers hinv hr hk h
  rw [dinReady_of_task hr hk, doutOffer_of_task hr hk, rspOffer_of_task hr hk]
  refine ⟨hdin, hdout, ?_, hcmd⟩
  rw [hrsp]
  cases s.port.rspReady <;> cases k.response <;> simp

/-! ### What a command transfers -/

/-- R60, R66: from `s` to `t` a command takes payload bytes from the front and adds output bytes, and is
in progress or has been answered. -/
structure CommandTransfers (s t : State) : Prop where
  dout : s.port.dout <+: t.port.dout
  din  : t.port.din <:+ s.port.din
  rsp  : ∃ r : Option Response, t.port.rsp = s.port.rsp ++ r.toList ∧ t.busy = r.isNone

/-- R14, R163: a command is accepted and transfers nothing yet, or transfers what it does at once. -/
theorem CommandTransfers.atOnce {nIn nOut : Nat} {now : State → State} {t : Task} {s : State}
    (h : CommandTransfers s (now s)) : CommandTransfers s (s.atOnce nIn nOut now t) :=
  State.atOnce_cases (fun _ => h) ⟨List.prefix_rfl, List.suffix_rfl, none, by simp, rfl⟩

/-- R66, R138: a command that takes `n` payload bytes and answers, without output. -/
theorem CommandTransfers.of_silent {s t : State} (n : Nat) (r : Response)
    (hdout : t.port.dout = s.port.dout) (hdin : t.port.din = s.port.din.drop n)
    (hrsp : t.port.rsp = s.port.rsp ++ [r]) (hbusy : t.busy = false) : CommandTransfers s t :=
  ⟨hdout ▸ List.prefix_rfl, hdin ▸ List.drop_suffix n _, some r, hrsp, hbusy⟩

theorem error_transfers (r : Response) (n : Nat) (s : State) :
    CommandTransfers s (s.atOnce n 0 (.raise r n) (.discard n r)) :=
  .atOnce (.of_silent n r rfl rfl rfl rfl)

theorem genblockNow_transfers (s : State) : CommandTransfers s s.genblockNow := by
  obtain ⟨m, out, h⟩ := genblockNow_frame s
  rw [h]
  exact ⟨List.prefix_append .., List.suffix_rfl, some .ok, rfl, rfl⟩

theorem xorksNow_transfers (len : Nat) (s : State) : CommandTransfers s (s.xorksNow len) := by
  obtain ⟨m, n, ph, r, out, h⟩ := xorksNow_frame len s
  rw [h]
  exact ⟨List.prefix_append .., List.drop_suffix .., some .ok, rfl, rfl⟩

/-- R101 to R103, R120, R138: what each command transfers. -/
theorem exec_transfers {i : Instr} {s t : State} (hE : i ≠ .rndE) (hO : i ≠ .rndO)
    (h : exec i s = .next t) : CommandTransfers s t := by
  cases i with
  | init klen nlen =>
    rw [exec, execInit_eq] at h
    cases h
    split
    · exact .atOnce (.of_silent 48 .ok rfl rfl rfl rfl)
    · exact error_transfers ..
  | reset =>
    rw [exec, execReset_eq] at h
    cases h
    obtain ⟨hdout, hdin, hrsp⟩ := CommandTransfers.atOnce (nIn := 0) (nOut := 0) (t := .respond .ok)
      (.of_silent (s := s.clearCtr) (t := s.clearCtr.answer .ok) 0 .ok rfl rfl rfl rfl)
    exact ⟨hdout, hdin, hrsp⟩
  | genblock =>
    rw [exec, execGenblock_eq] at h
    cases h
    split
    · exact .atOnce (genblockNow_transfers s)
    · exact error_transfers ..
  | xorks len =>
    rw [exec, execXorks_eq] at h
    cases h
    split
    · exact .atOnce (xorksNow_transfers len s)
    · exact error_transfers ..
  | rndE => exact absurd rfl hE
  | rndO => exact absurd rfl hO

/-! ### What any step transfers -/

/-- R60, R66: a step transfers nothing, or what the command in progress has to, or what the command does
whose word an idle unit takes. -/
theorem step_channels {s t : State} (h : step s = .next t) :
    (t.port = s.port ∧ (s.port.rst = true ∨ t.busy = s.busy)) ∨
    (∃ k, s.task = some k ∧ Transfers k s t ∧ KeepsHost s t) ∨
    ∃ w ws, s.busy = false ∧ s.port.cmd = w :: ws ∧ CommandTransfers (s.withCmd ws) t ∧
      KeepsHost (s.withCmd ws) t := by
  rcases step_cases s with ⟨hr, hs⟩ | ⟨-, -, -, hs⟩ | ⟨-, -, -, hs⟩ | ⟨k, -, -, hk, hs⟩ |
    ⟨-, -, -, -, hs⟩ | ⟨w, ws, i, -, -, -, hb, hc, hd, hs⟩ | ⟨w, ws, e, -, -, -, hb, hc, -, hs⟩ <;>
    rw [hs] at h
  case inr.inr.inr.inr.inr.inl =>
    obtain ⟨hE, hO⟩ := decodeWord_ne_micro hd
    exact .inr (.inr ⟨w, ws, hb, hc, exec_transfers hE hO h, exec_keepsHost h⟩)
  all_goals cases h
  · exact .inl ⟨rfl, .inl hr⟩
  · exact .inl ⟨rfl, .inr rfl⟩
  · exact .inl ⟨rfl, .inr rfl⟩
  · exact .inr (.inl ⟨k, hk, progress_transfers k s, progress_keepsHost k s⟩)
  · exact .inl ⟨rfl, .inr rfl⟩
  · exact .inr (.inr ⟨w, ws, hb, hc, error_transfers .illegalCommand 0 (s.withCmd ws),
      .atOnce (raise_keepsHost ..)⟩)

/-- Settles O34: whatever a step transfers, it takes from the front and adds at the end. -/
theorem transfersAreNeverUndone : Obligations.TransfersAreNeverUndone := by
  intro s t h
  rcases step_channels h with ⟨hport, -⟩ | ⟨k, -, htransfers, hkeep⟩ | ⟨w, ws, -, hc, htransfers, hkeep⟩
  · rw [hport]
    exact ⟨List.prefix_rfl, List.prefix_rfl, List.suffix_rfl, List.suffix_rfl, rfl, rfl, rfl⟩
  · have hdin : t.port.din <:+ s.port.din := by
      rw [htransfers.din]
      split
      · exact List.drop_suffix ..
      · exact List.suffix_rfl
    exact ⟨htransfers.dout ▸ List.prefix_append .., htransfers.rsp ▸ List.prefix_append .., hdin,
      hkeep.cmd ▸ List.suffix_rfl, hkeep.rst, hkeep.doutReady, hkeep.rspReady⟩
  · obtain ⟨r, hrsp, -⟩ := htransfers.rsp
    have hcmd : t.port.cmd <:+ s.port.cmd := by
      rw [hkeep.cmd, hc]
      exact List.suffix_cons ..
    exact ⟨htransfers.dout, hrsp ▸ List.prefix_append .., htransfers.din, hcmd, hkeep.rst,
      hkeep.doutReady, hkeep.rspReady⟩

/-! ### One response per command -/

/-- R66: a command in progress stays in progress or delivers its one response. -/
theorem Transfers.one_response {k : Task} {s t : State} (h : Transfers k s t) (hb : s.busy = true) :
    t.port.rsp.length + t.busy.toNat = s.port.rsp.length + 1 := by
  rw [h.rsp, h.busy, hb]
  cases s.port.rspReady <;> cases k.response <;> simp

/-- R66: a command that an idle unit takes is in progress or has delivered its one response. -/
theorem CommandTransfers.one_response {s t : State} (h : CommandTransfers s t) :
    t.port.rsp.length + t.busy.toNat = s.port.rsp.length + 1 := by
  obtain ⟨r, hrsp, hbusy⟩ := h.rsp
  rw [hrsp, hbusy]
  cases r <;> simp

/-- Settles O36: a response ends a command in progress, and a word taken begins one or is answered. -/
theorem oneResponsePerCommand : Obligations.OneResponsePerCommand := by
  intro s t hinv hr h
  rcases step_channels h with ⟨hport, hrst | hbusy⟩ | ⟨k, hk, htransfers, hkeep⟩ |
    ⟨w, ws, hb, hc, htransfers, hkeep⟩
  · simp [hr] at hrst
  · rw [hport, hbusy]
  · obtain ⟨hb, -, -⟩ := hinv.of_task hk
    rw [htransfers.one_response hb, hkeep.cmd, hb, Bool.toNat_true]
  · rw [htransfers.one_response, hkeep.cmd, hb, hc, Bool.toNat_false, List.length_cons]
    simp +arith

end Sys2Proof.Machine
end

section
/-! Scope: the Word Codec: the value of `B2W`, the bytes of `W2B`, the words of a buffer, and that each
codec is inverted by its other half (spec/40_word_codec.md R80 to R84). -/

namespace Sys2Proof.Machine

/-! ### The value of a sequence of bytes -/

/-- R80: the numbers that the bytes of a sequence are, the last byte first. -/
def digitsOf (b : List Byte) : List Nat := b.reverse.map BitVec.toNat

theorem digitsOf_concat (b : List Byte) (x : Byte) :
    digitsOf (b ++ [x]) = x.toNat :: digitsOf b := by simp [digitsOf]

theorem ofDigits_digitsOf_lt (b : List Byte) :
    Nat.ofDigits 256 (digitsOf b) < 256 ^ b.length := by
  have hbyte : ∀ d ∈ digitsOf b, d < 256 := by
    intro d hd
    obtain ⟨x, -, rfl⟩ := List.mem_map.mp hd
    exact x.isLt
  simpa [digitsOf] using Nat.ofDigits_lt_base_pow_length (by decide) hbyte

/-- R80: a byte that comes in is added to the value so far times 256, as long as that fits the word. -/
theorem shiftIn_toNat {w : Word} (x : Byte) (hw : w.toNat < 2 ^ 56) :
    ((w <<< 8) ||| x.setWidth 64).toNat = x.toNat + 256 * w.toNat := by
  have hx : x.toNat < 2 ^ 8 := x.isLt
  have hfits : w.toNat <<< 8 % 2 ^ 64 = w.toNat <<< 8 := Nat.mod_eq_of_lt (by omega)
  rw [BitVec.toNat_or, BitVec.toNat_shiftLeft, BitVec.toNat_setWidth_of_le (by decide), hfits,
    ← Nat.shiftLeft_add_eq_or_of_lt hx]
  omega

/-- R80: at most 8 bytes have the value that they write in base 256. -/
theorem b2w_toNat {b : List Byte} (hb : b.length ≤ 8) :
    (b2w b).toNat = Nat.ofDigits 256 (digitsOf b) := by
  induction b using List.reverseRecOn with
  | nil => rfl
  | append_singleton b x ih =>
    simp only [List.length_append, List.length_singleton] at hb
    have hvalue := ih (by omega)
    have hlt : (b2w b).toNat < 2 ^ 56 := calc
      (b2w b).toNat < 256 ^ b.length := hvalue ▸ ofDigits_digitsOf_lt b
      _ ≤ 256 ^ 7 := Nat.pow_le_pow_right (by decide) (by omega)
    rw [b2w_concat, shiftIn_toNat x hlt, hvalue, digitsOf_concat, Nat.ofDigits_cons]

/-- Settles O9: eight digits in base 256, written out. -/
theorem b2wPositionalValue : Obligations.B2wPositionalValue := by
  intro b0 b1 b2 b3 b4 b5 b6 b7
  rw [b2w_toNat (by simp)]
  simp only [digitsOf, List.reverse_cons, List.reverse_nil, List.nil_append, List.cons_append,
    List.map_cons, List.map_nil, Nat.ofDigits_cons, Nat.ofDigits_nil]
  omega

/-! ### The bytes of a word -/

/-- R81: the bytes of a word are its eight groups of eight bits, the highest first. -/
theorem w2b_getElem? (w : Word) {i : Nat} (hi : i < 8) :
    (w2b w)[i]? = some (w.extractLsb' (8 * (7 - i)) 8) := by
  have hbyte : (w >>> (8 * (7 - i))).setWidth 8 = w.extractLsb' (8 * (7 - i)) 8 :=
    BitVec.eq_of_toNat_eq (by simp)
  simp [w2b, hi, hbyte]

/-- Settles O10: eight groups of eight bits, as quotients. -/
theorem w2bByteValue : Obligations.W2bByteValue := by
  refine fun w => ⟨w2b_length w, fun i hi => ?_⟩
  rw [w2b_getElem? w hi]
  refine congrArg some (BitVec.eq_of_toNat_eq ?_)
  simp [Nat.shiftRight_eq_div_pow]

/-- R82: words with the same bytes are the same, since bit `k` stands in byte `7 - k div 8`. -/
theorem w2b_injective : Function.Injective w2b := by
  refine fun w w' h => BitVec.eq_of_getLsbD_eq fun k hk => ?_
  have hbyte : w.extractLsb' (8 * (7 - (7 - k / 8))) 8 = w'.extractLsb' (8 * (7 - (7 - k / 8))) 8 := by
    have hi : 7 - k / 8 < 8 := by omega
    rw [← Option.some.injEq, ← w2b_getElem? w hi, ← w2b_getElem? w' hi, h]
  have hk64 : k < 64 := hk
  have hplace : 8 * (7 - (7 - k / 8)) + k % 8 = k := by omega
  simpa [hplace, Nat.mod_lt] using congrArg (BitVec.getLsbD · (k % 8)) hbyte

/-- R82: `W2B` undoes `B2W`, byte by byte. -/
theorem w2b_b2w {b : List Byte} (hb : b.length = 8) : w2b (b2w b) = b := by
  refine List.ext_getElem?' fun i hi => ?_
  have hi8 : i < 8 := by simpa [hb] using hi
  rw [w2b_getElem? _ hi8, getElem?_eq_b2w_extractLsb' hb.le (hb ▸ hi8), hb]

/-- R82: `B2W` undoes `W2B`. -/
theorem b2w_w2b (w : Word) : b2w (w2b w) = w := w2b_injective (w2b_b2w (w2b_length w))

/-- Settles O11, from the places of the bytes in the word of `B2W` and in that of `W2B`. -/
theorem wordCodecRoundTrip : Obligations.WordCodecRoundTrip := ⟨b2w_w2b, fun _ => w2b_b2w⟩

/-! ### The words of a buffer -/

theorem buf2words_getElem {n : Nat} (b : List Byte) {i : Nat} (hi : i < n) :
    (buf2words n b)[i] = b2w (memRead b (8 * i) 8) := by simp [buf2words]

/-- R84: the eight bytes at offset `8i` of a serialised vector are those of its word `i`. -/
theorem memRead_words2buf {n : Nat} (v : Words n) {i : Nat} (hi : i < n) :
    memRead (words2buf v) (8 * i) 8 = w2b v[i] := by
  have hlen : (v.toList.map w2b).map List.length = List.replicate n 8 := by
    simp [Function.comp_def, List.map_const']
  have hword := List.drop_take_succ_flatten_eq_getElem (v.toList.map w2b) i (by simpa using hi)
  rw [hlen, List.take_replicate, List.take_replicate, List.sum_replicate_nat, List.sum_replicate_nat,
    Nat.min_eq_left hi.le, Nat.min_eq_left (Nat.succ_le_of_lt hi), ← List.flatMap_def, Nat.succ_mul,
    ← List.take_drop, Nat.mul_comm] at hword
  simpa [memRead, words2buf] using hword

/-- R83, R84: `BUF2WORDS_n` undoes `WORDS2BUF`, word by word. -/
theorem buf2words_words2buf {n : Nat} (v : Words n) : buf2words n (words2buf v) = v := by
  refine Vector.ext fun i hi => ?_
  rw [buf2words_getElem _ hi, memRead_words2buf v hi, b2w_w2b]

/-- R83: buffers of `8n` bytes with the same words are the same. -/
theorem buf2words_injOn (n : Nat) : Set.InjOn (buf2words n) {b | b.length = 8 * n} := by
  intro b hb b' hb' h
  refine List.ext_getElem?' fun j hj => ?_
  have hword : j / 8 < n := by
    rw [hb, hb', max_self] at hj
    omega
  rw [getElem?_eq_buf2words_extractLsb' hb j hword, getElem?_eq_buf2words_extractLsb' hb' j hword, h]

/-- R83, R84: `WORDS2BUF` undoes `BUF2WORDS_n`. -/
theorem words2buf_buf2words {n : Nat} {b : List Byte} (hb : b.length = 8 * n) :
    words2buf (buf2words n b) = b :=
  buf2words_injOn n (words2buf_length _) hb (buf2words_words2buf _)

/-- Settles O12: a vector and its buffer, read word by word. -/
theorem bufferCodecRoundTrip : Obligations.BufferCodecRoundTrip := fun _ =>
  ⟨fun b i _ => buf2words_getElem b i.isLt,
    fun v => ⟨words2buf_length v, fun i => memRead_words2buf v i.isLt⟩,
    buf2words_words2buf, fun _ => words2buf_buf2words⟩

end Sys2Proof.Machine
end

section
/-! Scope: the round unit (spec/30_encoding.md R68, R69; 41_round.md R91 to R97; 42_cipher_fsm.md
R105): what each micro-operation does to the state, and the rounds row by row. -/

namespace Sys2Proof.Machine

/-! ### Which round runs -/

/-- R68, R94: the parity of a round is that of its index. -/
theorem parityOf_eq_even_iff {rnd : BitVec 5} : parityOf rnd = .even ↔ rnd.toNat % 2 = 0 := by
  have hpar : parityOf rnd = if rnd.toNat % 2 = 0 then .even else .odd := by
    simpa using parityOf_ofNat rnd.toNat
  simp [hpar]

/-- Settles O7, from the parity of a round index and the micro-operation of each parity. -/
theorem roundParityFollowsIndex : Obligations.RoundParityFollowsIndex := by
  intro rnd
  rcases microOp_cases rnd with ⟨hp, hm⟩ | ⟨hp, hm⟩
  · rw [hm, if_pos (parityOf_eq_even_iff.mp hp)]
  · have hodd : parityOf rnd ≠ .even := by simp [hp]
    rw [hm, if_neg (mt parityOf_eq_even_iff.mpr hodd)]

/-! ### The micro-operations -/

/-- R105: the state after a round whose outputs are known. -/
theorem State.roundStep_eq {p : Parity} {s : State} {outputs : Slots} (h : round p s.ms = outputs) :
    s.roundStep p = { s with ms := outputs, ns := outputs, rnd := s.rnd + 1 } := by
  rw [State.roundStep, h]

/-- Settles O14, from the statement list of the even round. -/
theorem evenRoundResult : Obligations.EvenRoundResult := fun s =>
  congrArg Host.Outcome.next (State.roundStep_eq (round_even s.ms))

/-- Settles O15, from the statement list of the odd round. -/
theorem oddRoundResult : Obligations.OddRoundResult := fun s =>
  congrArg Host.Outcome.next (State.roundStep_eq (round_odd s.ms))

/-! ### The rows of a schedule -/

/-- R69: a slot that no row writes keeps its word. -/
theorem foldl_set_out_of_notMem {n : Nat} {α : Type} (value : ScheduleRow n → α) {i : Fin n}
    (rows : List (ScheduleRow n)) (hi : i ∉ rows.map ScheduleRow.out) (s : Vector α n) :
    (rows.foldl (fun acc r => acc.set r.out (value r)) s)[i] = s[i] := by
  induction rows generalizing s with
  | nil => rfl
  | cons r rows ih =>
    obtain ⟨hne, hrest⟩ : i ≠ r.out ∧ i ∉ rows.map ScheduleRow.out := by
      simpa only [List.map_cons, List.mem_cons, not_or] using hi
    rw [List.foldl_cons, ih hrest]
    exact Vector.getElem_set_ne _ _ fun h => hne (Fin.ext h.symm)

/-- R69, R93: where no two rows write one slot, a row's slot ends with that row's value. -/
theorem foldl_set_out_of_mem {n : Nat} {α : Type} (value : ScheduleRow n → α) {r : ScheduleRow n}
    (rows : List (ScheduleRow n)) (hd : (rows.map ScheduleRow.out).Nodup) (hr : r ∈ rows)
    (s : Vector α n) : (rows.foldl (fun acc r => acc.set r.out (value r)) s)[r.out] = value r := by
  induction rows generalizing s with
  | nil => cases hr
  | cons r' rows ih =>
    obtain ⟨hhead, htail⟩ := List.nodup_cons.mp hd
    rw [List.foldl_cons]
    rcases List.mem_cons.mp hr with rfl | hr
    · rw [foldl_set_out_of_notMem value rows hhead]
      exact Vector.getElem_set_self _
    · exact ih htail hr _

/-- R69: the rows of a schedule write the eight slots, each of them once. -/
theorem schedule_out_perm (p : Parity) :
    ((schedule p).map ScheduleRow.out).Perm (List.finRange 8) := by
  cases p <;> decide

theorem schedule_out_nodup (p : Parity) : ((schedule p).map ScheduleRow.out).Nodup :=
  (schedule_out_perm p).nodup_iff.mpr (List.nodup_finRange 8)

/-- R93, R96: each row's slot gets the row's value of the old state. -/
theorem round_getElem_out (s : Slots) {p : Parity} {r : ScheduleRow 8} (hr : r ∈ schedule p) :
    (round p s)[r.out] = rowValue s r :=
  foldl_set_out_of_mem (rowValue s) (schedule p) (schedule_out_nodup p) hr s

/-- Settles O16: each row writes a slot of its own, and the rows give the statement lists. -/
theorem roundFollowsSchedule : Obligations.RoundFollowsSchedule :=
  ⟨fun p s => ⟨schedule_out_perm p, fun _ hr => round_getElem_out s hr⟩,
    fun s => ⟨round_even s, round_odd s⟩⟩

/-! ### The halves of a round -/

/-- R97: the outputs of rows that read only slots with `P` depend on no other slot. -/
theorem round_congr_of_reads {P : Fin 8 → Prop} {p : Parity} {rows : List (ScheduleRow 8)}
    (hrows : rows ⊆ schedule p) (hreads : ∀ r ∈ rows, P r.a ∧ P r.b ∧ P r.c) {s t : Slots}
    (h : ∀ i, P i → s[i] = t[i]) : ∀ r ∈ rows, (round p s)[r.out] = (round p t)[r.out] := by
  intro r hr
  obtain ⟨ha, hb, hc⟩ := hreads r hr
  rw [round_getElem_out s (hrows hr), round_getElem_out t (hrows hr), rowValue, rowValue,
    h _ ha, h _ hb, h _ hc]

/-- R97: rows 0 to 3 of either schedule read slots 0 to 3 only. -/
theorem reads_of_mem_take_schedule (p : Parity) :
    ∀ r ∈ (schedule p).take 4, r.a < 4 ∧ r.b < 4 ∧ r.c < 4 := by
  cases p <;> decide

/-- R97: rows 4 to 7 of either schedule read slots 4 to 7 only. -/
theorem reads_of_mem_drop_schedule (p : Parity) :
    ∀ r ∈ (schedule p).drop 4, 4 ≤ r.a ∧ 4 ≤ r.b ∧ 4 ≤ r.c := by
  cases p <;> decide

/-- Settles O17: the rows of each half read that half only. -/
theorem roundHalvesStayApart : Obligations.RoundHalvesStayApart := by
  refine fun s t => ⟨fun ⟨h0, h1, h2, h3⟩ => ?_, fun ⟨h4, h5, h6, h7⟩ => ?_⟩
  · have hlow : ∀ i : Fin 8, i < 4 → s[i] = t[i] := by
      simpa [Fin.forall_fin_succ] using ⟨h0, h1, h2, h3⟩
    have hout p := round_congr_of_reads (List.take_subset 4 _) (reads_of_mem_take_schedule p) hlow
    simpa [schedule, evenSchedule, oddSchedule, and_assoc] using And.intro (hout .even) (hout .odd)
  · have hhigh : ∀ i : Fin 8, 4 ≤ i → s[i] = t[i] := by
      simpa [Fin.forall_fin_succ] using ⟨h4, h5, h6, h7⟩
    have hout p := round_congr_of_reads (List.drop_subset 4 _) (reads_of_mem_drop_schedule p) hhigh
    simpa [schedule, evenSchedule, oddSchedule, and_assoc] using And.intro (hout .even) (hout .odd)

end Sys2Proof.Machine
end

section
/-! Scope: the cipher commands and the sequencer: the state load, served `INIT`, `RESET` and `GENBLOCK`,
when a command word is accepted, and the transitions of the sequencer (spec/42_cipher_fsm.md R100 to
R112; 10_state.md R23, R26, R27, R34). -/

namespace Sys2Proof.Machine

/-! ### The state load -/

/-- R34 (c), R104: the loaded state holds its counter in slot 5. -/
theorem initialState_injective (key : Words 4) (nonce : Words 2) :
    Function.Injective (initialState key nonce) := fun c d h => by
  rw [initialState_eq, initialState_eq] at h
  exact congrArg (·[5]) h

/-- R104: the state load as a record of what it writes. -/
theorem State.stateLoad_eq (s : State) : s.stateLoad =
    { s with phase := .gen, rnd := 0, ms := loadedState s.key s.nonce s.ctr } :=
  stateLoad_rounds 0 s

/-- Settles O18, from the state load as a formula, and the counter read back from slot 5. -/
theorem stateLoadPlacesEveryWord : Obligations.StateLoadPlacesEveryWord :=
  ⟨State.stateLoad_eq, fun key nonce _ _ h => initialState_injective key nonce h⟩

/-! ### Served commands -/

/-- R14, R163: a served command runs at once. -/
theorem State.atOnce_of_served {nIn nOut : Nat} {s : State} (hin : nIn ≤ s.port.din.length)
    (hout : nOut = 0 ∨ s.port.doutReady = true) (hrsp : s.port.rspReady = true)
    (now : State → State) (t : Task) : s.atOnce nIn nOut now t = now s :=
  if_pos (served_iff.mpr ⟨hin, hout, hrsp⟩)

/-- Settles O20: a served `RESET` is answered at once, with the counter cleared. -/
theorem resetClearsCounterOnly : Obligations.ResetClearsCounterOnly := by
  intro s hrsp
  rw [exec, execReset_eq, State.atOnce_of_served (s := s.clearCtr) (Nat.zero_le _) (.inl rfl) hrsp]
  rfl

/-- R40: a read of a read is a read at the sum of the offsets, if it ends within the first. -/
theorem memRead_memRead (buf : List Byte) {off n i k : Nat} (h : i + k ≤ n) :
    memRead (memRead buf off n) i k = memRead buf (off + i) k := by
  rw [memRead, memRead, memRead, List.drop_take, List.drop_drop, List.take_take,
    Nat.min_eq_left (by omega)]

/-- R83: the words of a part of a buffer are read from the buffer, at the part's offset. -/
theorem buf2words_memRead {n : Nat} (buf : List Byte) {off len : Nat} (h : 8 * n ≤ len) :
    buf2words n (memRead buf off len) =
      Vector.ofFn fun i : Fin n => b2w (memRead buf (off + 8 * i.val) 8) :=
  congrArg Vector.ofFn (funext fun i => congrArg b2w (memRead_memRead buf (by
    rw [wordBytes_eq]; omega)))

/-- R62, R83: the key words of the payload that the host offers. -/
theorem keyOf_memRead (buf : List Byte) : keyOf (memRead buf 0 48) =
    Vector.ofFn fun i : Fin 4 => b2w (memRead buf (8 * i.val) 8) := by
  have hpart : memRead (memRead buf 0 48) 0 32 = memRead buf 0 32 := memRead_memRead buf (by decide)
  simpa [keyOf, hpart] using buf2words_memRead (n := 4) buf (off := 0) (len := 32) (by decide)

/-- R62, R83: the nonce words of the payload that the host offers. -/
theorem nonceOf_memRead (buf : List Byte) : nonceOf (memRead buf 0 48) =
    Vector.ofFn fun i : Fin 2 => b2w (memRead buf (32 + 8 * i.val) 8) := by
  have hpart : memRead (memRead buf 0 48) 32 16 = memRead buf 32 16 := memRead_memRead buf (by decide)
  simpa [nonceOf, hpart] using buf2words_memRead (n := 2) buf (off := 32) (len := 16) (by decide)

/-- Settles O19: a served `INIT` of the right lengths is `initNow`, whose words are read from the
offered payload. -/
theorem initInstallsKeyAndNonce : Obligations.InitInstallsKeyAndNonce := by
  intro s hdin hrsp
  rw [exec, execInit_eq, if_pos (lengthsRight_iff.mpr ⟨rfl, rfl⟩),
    State.atOnce_of_served hdin (.inl rfl) hrsp]
  have hkey := keyOf_memRead s.port.din
  have hnonce := nonceOf_memRead s.port.din
  simp only [State.initNow, State.install, hkey, hnonce]
  rfl

/-! ### `GENBLOCK` -/

/-- R103 to R108, R112: block generation as a record of what it writes. -/
theorem State.genBlock_eq (s : State) : s.genBlock = { s with
    ctr := s.ctr + 1, ms := blockOf s.key s.nonce s.ctr, ns := blockOf s.key s.nonce s.ctr
    phase := .idle, rnd := 0 } := by
  have hrounds : s.stateLoad.rounds 32 = _ := stateLoad_rounds 32 s
  rw [State.genBlock, hrounds]
  rfl

/-- R44, R108: the bytes of the block just generated. -/
theorem genBlock_blockBytes (s : State) :
    s.genBlock.blockBytes = List.ofFn (blockByte (blockOf s.key s.nonce s.ctr)) := by
  rw [State.blockBytes, words2buf_eq_blockByte, State.genBlock_eq]

/-- R103: a served `GENBLOCK` on a keyed unit runs at once. -/
theorem exec_genblock_of_served {s : State} (hkeyed : s.keyed = true)
    (hdout : s.port.doutReady = true) (hrsp : s.port.rspReady = true) :
    exec .genblock s = .next s.genblockNow := by
  rw [exec, execGenblock_eq, if_pos hkeyed,
    State.atOnce_of_served (Nat.zero_le _) (.inr hdout) hrsp]

/-- Settles O21: block generation and its bytes as formulas. -/
theorem genblockResult : Obligations.GenblockResult := by
  intro s hkeyed hdout hrsp
  rw [exec_genblock_of_served hkeyed hdout hrsp, State.genblockNow, genBlock_blockBytes,
    State.genBlock_eq]
  rfl

/-! ### Several blocks -/

/-- R122: the keystream from counter `c` goes on, after `m` blocks, as the keystream from `c + m`. -/
theorem keystream_add (key : Words 4) (nonce : Words 2) (c : Word) (m n : Nat) :
    keystream key nonce c (64 * m + n) =
      keystream key nonce c (64 * m) ++ keystream key nonce (c + BitVec.ofNat 64 m) n := by
  have hbyte : ∀ k, keystreamByte key nonce c (64 * m + k) =
      keystreamByte key nonce (c + BitVec.ofNat 64 m) k := fun k => by
    have hblock : (64 * m + k) / 64 = m + k / 64 := by omega
    have hplace : (64 * m + k) % 64 = k % 64 := by omega
    simp only [keystreamByte, hblock, hplace, BitVec.ofNat_add, BitVec.add_assoc]
  rw [keystream, List.range_add, List.map_append, List.map_map]
  exact congrArg (_ ++ ·) (List.map_congr_left fun k _ => hbyte k)

/-- R108, R122: the first 64 bytes of a keystream are the block of its counter. -/
theorem keystream_block (key : Words 4) (nonce : Words 2) (c : Word) :
    keystream key nonce c 64 = List.ofFn (blockByte (blockOf key nonce c)) := by
  refine List.ext_getElem (by simp [keystream]) fun k h _ => ?_
  have hk : k < 64 := by simpa [keystream] using h
  have hblock : k / 64 = 0 := Nat.div_eq_of_lt hk
  rw [List.getElem_ofFn]
  simp [keystream, keystreamByte, hblock, Nat.mod_eq_of_lt hk]

/-- R103, R122: a served `GENBLOCK` hands over the 64 keystream bytes of its counter. -/
theorem genblockNow_dout (s : State) :
    s.genblockNow.port.dout = s.port.dout ++ keystream s.key s.nonce s.ctr 64 := by
  rw [State.genblockNow, State.answer_dout, State.deliver_dout, genBlock_port, genBlock_blockBytes,
    keystream_block]

/-- R108, R109: the counter and the output after `n` served `GENBLOCK`s, from any counter. -/
theorem execTimes_genblock (n : Nat) {s : State} (hkeyed : s.keyed = true)
    (hdout : s.port.doutReady = true) (hrsp : s.port.rspReady = true) :
    ∃ t, execTimes .genblock n s = .next t ∧ t.ctr = s.ctr + BitVec.ofNat 64 n ∧
      t.port.dout = s.port.dout ++ keystream s.key s.nonce s.ctr (64 * n) := by
  induction n generalizing s with
  | zero => exact ⟨s, rfl, (BitVec.add_zero _).symm, (List.append_nil _).symm⟩
  | succ n ih =>
    obtain ⟨hkeep, hnext⟩ := genblockNow_keepsKey s
    have hhost := genblockNow_keepsHost s
    obtain ⟨t, ht, hctr, hout⟩ := ih (hkeep.keyed.trans hkeyed) (hhost.doutReady.trans hdout)
      (hhost.rspReady.trans hrsp)
    rw [execTimes, exec_genblock_of_served hkeyed hdout hrsp, Nat.add_comm n 1]
    refine ⟨t, ht, ?_, ?_⟩
    · rw [hctr, hnext, BitVec.ofNat_add, ← BitVec.add_assoc]; rfl
    · rw [hout, hkeep.key, hkeep.nonce, hnext, genblockNow_dout, List.append_assoc, Nat.mul_add]
      exact congrArg (s.port.dout ++ ·) (keystream_add s.key s.nonce s.ctr 1 (64 * n)).symm

/-- Settles O43: the run from counter 0. -/
theorem counterCountsBlocks : Obligations.CounterCountsBlocks := by
  intro n s hkeyed hctr hdout hrsp
  have hrun := execTimes_genblock n hkeyed hdout hrsp
  rw [hctr] at hrun
  simpa using hrun

/-! ### `GENBLOCK` as an `XORKS` -/

/-- R9: zero bytes leave a sequence of the same length as it is. -/
theorem xorBytes_replicate_zero (b : List Byte) : xorBytes (List.replicate b.length 0) b = b := by
  induction b with
  | nil => rfl
  | cons x b ih =>
    rw [List.length_cons, List.replicate_succ, xorBytes, List.zipWith_cons_cons, ← xorBytes, ih]
    exact congrArg (· :: b) BitVec.zero_xor

/-- R120: a served `XORKS` of one whole chunk is one block, combined with the chunk. -/
theorem xorksNow_chunk (s : State) : s.xorksNow 64 =
    ((s.genBlock.deliver (xorBytes (s.port.din.take 64) s.genBlock.blockBytes)).consume 64).answer
      .ok := by
  have hone : chunkCount 64 = 0 + 1 := rfl
  rw [State.xorksNow, hone, applyChunks_succ, State.applyChunks, memRead, List.drop_zero,
    List.take_take, Nat.min_self]

/-- R120: a served `XORKS` on a keyed unit runs at once. -/
theorem exec_xorks_of_served {len : Nat} {s : State} (hkeyed : s.keyed = true)
    (hdin : len ≤ s.port.din.length) (hdout : len = 0 ∨ s.port.doutReady = true)
    (hrsp : s.port.rspReady = true) : exec (.xorks len) s = .next (s.xorksNow len) := by
  rw [exec, execXorks_eq, if_pos hkeyed, State.atOnce_of_served hdin hdout hrsp]

/-- The interface of a host that offers 64 zero bytes before what it offers already. -/
def Port.zerosFirst (p : Port) : Port := { p with din := List.replicate 64 0 ++ p.din }

/-- R103: `XORKS` of 64 zero bytes generates the block, hands over its bytes as they are, and leaves the
payload that is offered behind the zero bytes. -/
theorem xorksNow_zerosFirst (s : State) : (s.onPort Port.zerosFirst).xorksNow 64 = s.genblockNow := by
  have hsrc : (s.onPort Port.zerosFirst).port.din.take 64 =
      List.replicate s.genBlock.blockBytes.length 0 := by
    rw [blockBytes_length]
    exact List.take_left' List.length_replicate
  rw [xorksNow_chunk, hsrc, genBlock_onPort, State.blockBytes_onPort, xorBytes_replicate_zero]
  simp [State.genblockNow, State.onPort, Port.zerosFirst, State.deliver, State.consume, State.answer]

/-- Settles O44: both commands are served, and the `XORKS` is the `GENBLOCK` behind its zero bytes. -/
theorem genblockIsXorksOfZeros : Obligations.GenblockIsXorksOfZeros := by
  intro s hkeyed hdout hrsp
  change exec .genblock s = exec (.xorks 64) (s.onPort Port.zerosFirst)
  have hdin : 64 ≤ (s.onPort Port.zerosFirst).port.din.length := by simp [State.onPort, Port.zerosFirst]
  rw [exec_genblock_of_served hkeyed hdout hrsp,
    exec_xorks_of_served (s := s.onPort Port.zerosFirst) hkeyed hdin (.inr hdout) hrsp,
    xorksNow_zerosFirst]

/-! ### When a command word is accepted -/

theorem State.Idle.cmdReady {s : State} (h : s.Idle) : s.cmdReady = true := by
  simp [State.cmdReady, h.busy, h.rst]

/-- Settles O35: of all that a step can do only an idle unit's taking of a word changes what is
offered, by that word. -/
theorem commandAcceptedOnlyWhenIdle : Obligations.CommandAcceptedOnlyWhenIdle := by
  intro s t h hne
  have htakes : ∀ {w : BitVec 32} {ws : List (BitVec 32)}, s.Idle → s.port.cmd = w :: ws →
      KeepsHost (s.withCmd ws) t → s.Idle ∧ s.cmdReady = true ∧ ∃ w, s.port.cmd = w :: t.port.cmd :=
    fun {w ws} hidle hc hkeep => ⟨hidle, hidle.cmdReady, w, by rw [hkeep.cmd, hc, State.withCmd_cmd]⟩
  rcases step_cases s with ⟨-, hs⟩ | ⟨-, -, -, hs⟩ | ⟨-, -, -, hs⟩ | ⟨k, -, -, -, hs⟩ |
    ⟨-, -, -, -, hs⟩ | ⟨w, ws, i, hr, hp, ht, hb, hc, -, hs⟩ | ⟨w, ws, e, hr, hp, ht, hb, hc, -, hs⟩ <;>
    rw [hs] at h
  case inr.inr.inr.inr.inr.inl => exact htakes ⟨hr, hp, hb, ht⟩ hc (exec_keepsHost h)
  all_goals cases h
  case inr.inr.inr.inr.inr.inr => exact htakes ⟨hr, hp, hb, ht⟩ hc (.atOnce (raise_keepsHost ..))
  case inr.inr.inr.inl => exact absurd (progress_keepsHost k s).cmd hne
  -- the reset, the rounds and waiting leave the interface as it is
  all_goals exact absurd rfl hne

/-! ### The transitions of the sequencer -/

/-- R100: an error leaves the sequencer as it is. -/
theorem error_phase (r : Response) (n : Nat) (s : State) :
    (s.atOnce n 0 (.raise r n) (.discard n r)).phase = s.phase :=
  State.atOnce_cases (P := (·.phase = s.phase)) (fun _ => rfl) rfl

/-- R100: a command leaves the sequencer idle, whether it runs at once or is accepted. -/
theorem exec_phase {i : Instr} {s t : State} (hp : s.phase = .idle) (hE : i ≠ .rndE) (hO : i ≠ .rndO)
    (h : exec i s = .next t) : t.phase = .idle := by
  cases i with
  | init klen nlen =>
    rw [exec, execInit_eq] at h
    cases h
    split
    · exact State.atOnce_cases (P := (·.phase = .idle)) (fun _ => hp) hp
    · rw [error_phase, hp]
  | reset =>
    rw [exec, execReset_eq] at h
    cases h
    exact State.atOnce_cases (P := (·.phase = .idle)) (fun _ => hp) hp
  | genblock =>
    rw [exec, execGenblock_eq] at h
    cases h
    split
    · exact State.atOnce_cases (P := (·.phase = .idle)) (fun _ => genBlock_phase s) hp
    · rw [error_phase, hp]
  | xorks len =>
    rw [exec, execXorks_eq] at h
    cases h
    split
    · exact State.atOnce_cases (P := (·.phase = .idle)) (fun _ => applyChunks_phase hp _ _) hp
    · rw [error_phase, hp]
  | rndE => exact absurd rfl hE
  | rndO => exact absurd rfl hO

/-- R100, R104: a micro-step of a command is the state load, for a block that the command needs, or
leaves the sequencer as it is. -/
theorem progress_phase (t : Task) (s : State) :
    (s.progress t = s.stateLoad ∧ (t = .genblock ∨ ∃ off len, off < len ∧ t = .chunk off len)) ∨
      (s.progress t).phase = s.phase := by
  cases t with
  | discard left r =>
    rw [State.progress, State.progressDiscard.eq_def]
    split <;> exact .inr rfl
  | takeInit left got =>
    rw [State.progress, State.progressInit.eq_def]
    split <;> exact .inr rfl
  | genblock => exact .inl ⟨rfl, .inl rfl⟩
  | chunk off len =>
    rw [State.progress, State.progressChunk]
    split
    case isTrue hlt => exact .inl ⟨rfl, .inr ⟨off, len, hlt, rfl⟩⟩
    case isFalse => exact .inr rfl
  | takeSrc off len left got =>
    rw [State.progress, State.progressSrc.eq_def]
    split <;> exact .inr rfl
  | emit bytes resume =>
    rw [State.progress, State.progressEmit.eq_def]
    split
    · split <;> exact .inr rfl
    · split <;> exact .inr rfl
  | respond r =>
    rw [State.progress]
    split <;> exact .inr rfl

/-- R100, R104: a step that starts a block is the state load of the command in progress. -/
theorem step_enters_gen {s t : State} (hr : s.port.rst = false) (h : step s = .next t)
    (hp : s.phase = .idle) (hg : t.phase = .gen) : t = s.stateLoad ∧
      (s.task = some .genblock ∨ ∃ off len, off < len ∧ s.task = some (.chunk off len)) := by
  have hstays : t.phase ≠ .idle := by simp [hg]
  rcases step_cases s with ⟨hr', -⟩ | ⟨-, hp', -⟩ | ⟨-, hp', -⟩ | ⟨k, -, -, hk, hs⟩ |
    ⟨-, -, -, -, hs⟩ | ⟨w, ws, i, -, -, -, -, -, hd, hs⟩ | ⟨w, ws, e, -, -, -, -, -, -, hs⟩
  · simp [hr] at hr'
  · simp [hp] at hp'
  · simp [hp] at hp'
  all_goals rw [hs] at h
  case inr.inr.inr.inr.inr.inl =>
    obtain ⟨hE, hO⟩ := decodeWord_ne_micro hd
    exact absurd (exec_phase (s := s.withCmd ws) hp hE hO h) hstays
  all_goals cases h
  · rcases progress_phase k s with ⟨hload, htask⟩ | hphase
    · exact ⟨hload, by simpa [hk] using htask⟩
    · exact absurd (hphase.trans hp) hstays
  · exact absurd hp hstays
  · exact absurd ((error_phase .illegalCommand 0 (s.withCmd ws)).trans hp) hstays

/-- R68, R94: the round of a round index, by the statement lists. -/
theorem round_parityOf (rnd : BitVec 5) (m : Slots) :
    round (parityOf rnd) m = if rnd.toNat % 2 = 0 then evenRound m else oddRound m := by
  have hpar : parityOf rnd = if rnd.toNat % 2 = 0 then .even else .odd := by
    simpa using parityOf_ofNat rnd.toNat
  rw [hpar, apply_ite (round · m), round_even, round_odd]

/-- Settles O41: a block starts with the state load, and each of its steps is one round, the last with
the finish. -/
theorem sequencerTransitions : Obligations.SequencerTransitions := by
  intro s t hr h
  refine ⟨fun hp hg => ?_, fun hp => ?_⟩
  · obtain ⟨rfl, htask⟩ := step_enters_gen hr h hp hg
    rw [State.stateLoad_eq]
    exact ⟨rfl, rfl, rfl, rfl, htask⟩
  · rw [step_of_gen hr hp] at h
    cases h
    rw [← round_parityOf]
    split
    case isTrue hlast => exact ⟨iff_of_true rfl hlast, by rw [hlast]; rfl, rfl, rfl⟩
    case isFalse hlast => exact ⟨iff_of_false (by simp [hp]) hlast, rfl, rfl, rfl⟩

end Sys2Proof.Machine
end

section
/-! Scope: the keystream applier: what a served `XORKS` writes and hands over, decryption, buffers with a
common start, and buffers cut between two commands (spec/43_keystream.md R120 to R128). -/

namespace Sys2Proof.Machine

/-! ### Buffers combined with keystream -/

/-- R9: the exclusive OR of two sequences is that of their first `n` bytes and that of their rest. -/
theorem xorBytes_take_append_drop (n : Nat) (a b : List Byte) :
    xorBytes (a.take n) (b.take n) ++ xorBytes (a.drop n) (b.drop n) = xorBytes a b := by
  simp only [xorBytes, ← List.take_zipWith, ← List.drop_zipWith, List.take_append_drop]

/-- R9, R125: combining twice with the same bytes changes nothing. -/
theorem xorBytes_xorBytes {a k : List Byte} (h : a.length ≤ k.length) :
    xorBytes (xorBytes a k) k = a := by
  refine List.ext_getElem (by simp [h]) fun i _ _ => ?_
  simp [xorBytes]

@[simp] theorem keystream_length (key : Words 4) (nonce : Words 2) (c : Word) (n : Nat) :
    (keystream key nonce c n).length = n := by simp [keystream]

/-- R122: a shorter keystream is the start of a longer one. -/
theorem take_keystream (key : Words 4) (nonce : Words 2) (c : Word) {m n : Nat} (h : m ≤ n) :
    (keystream key nonce c n).take m = keystream key nonce c m := by
  rw [keystream, ← List.map_take, List.take_range, Nat.min_eq_left h, keystream]

/-- R122: the start `A` of a buffer `A ++ B` is combined with the keystream of its own length. -/
theorem take_xorBytes_keystream (key : Words 4) (nonce : Words 2) (c : Word) (A B : List Byte)
    {n : Nat} (h : A.length ≤ n) :
    (xorBytes (A ++ B) (keystream key nonce c n)).take A.length =
      xorBytes A (keystream key nonce c A.length) := by
  rw [xorBytes, List.take_zipWith, List.take_left, take_keystream key nonce c h, xorBytes]

/-- R122: keystream beyond the end of the buffer is not used. -/
theorem xorBytes_keystream_of_le (key : Words 4) (nonce : Words 2) (c : Word) {A : List Byte}
    {n : Nat} (h : A.length ≤ n) :
    xorBytes A (keystream key nonce c n) = xorBytes A (keystream key nonce c A.length) := by
  rw [← take_xorBytes_keystream key nonce c A [] h, List.append_nil, List.take_of_length_le (by simp)]

/-! ### Cuts between chunks -/

/-- R121: the chunks of a buffer cut between two chunks, or at its end. -/
theorem chunkCount_add {m n : Nat} (h : m % 64 = 0 ∨ n = 0) :
    chunkCount (m + n) = chunkCount m + chunkCount n := by
  change (m + n + 63) / 64 = (m + 63) / 64 + (n + 63) / 64
  omega

/-- R122, R127: behind a cut between two chunks, or at the end, the keystream goes on from the counter
that the chunks before the cut have reached. -/
theorem keystream_append {m n : Nat} (h : m % 64 = 0 ∨ n = 0) (key : Words 4) (nonce : Words 2)
    (c : Word) :
    keystream key nonce c m ++ keystream key nonce (c + BitVec.ofNat 64 (chunkCount m)) n =
      keystream key nonce c (m + n) := by
  obtain hm | rfl := h
  · have hblocks : m = 64 * chunkCount m := by
      change m = 64 * ((m + 63) / 64)
      omega
    rw [hblocks, keystream_add, ← hblocks]
  · exact List.append_nil _

/-! ### Several blocks in a row -/

/-- R60: generating blocks leaves the interface as it is. -/
theorem iterate_genBlock_port (k : Nat) (s : State) : (State.genBlock^[k] s).port = s.port := by
  induction k with
  | zero => rfl
  | succ k ih => rw [Function.iterate_succ_apply', genBlock_port, ih]

/-- R108, R112, R128: what `k + 1` blocks write. -/
theorem iterate_genBlock_succ (k : Nat) (s : State) : State.genBlock^[k + 1] s = { s with
    ctr := s.ctr + BitVec.ofNat 64 (k + 1)
    ms := blockOf s.key s.nonce (s.ctr + BitVec.ofNat 64 k)
    ns := blockOf s.key s.nonce (s.ctr + BitVec.ofNat 64 k)
    phase := .idle, rnd := 0 } := by
  induction k with
  | zero =>
    have hzero : s.ctr + BitVec.ofNat 64 0 = s.ctr := BitVec.add_zero _
    rw [Function.iterate_one, State.genBlock_eq, hzero]
    rfl
  | succ k ih =>
    have hctr : s.ctr + BitVec.ofNat 64 (k + 1) + 1 = s.ctr + BitVec.ofNat 64 (k + 1 + 1) := by
      rw [BitVec.ofNat_add (k + 1), ← BitVec.add_assoc]
      rfl
    rw [Function.iterate_succ_apply', ih, State.genBlock_eq, ← hctr]

/-! ### What a served `XORKS` does -/

/-- R50 (d), R120: output handed over before further blocks is handed over as well after them. -/
theorem genBlock_commute_deliver (bytes : List Byte) :
    Function.Commute State.genBlock (State.deliver bytes) := genBlock_onPort (Port.deliver bytes)

/-- R120 to R122: the chunk loop generates its blocks and hands over the buffer combined with their
keystream. -/
theorem applyChunks_eq (k : Nat) (src : List Byte) (s : State) : s.applyChunks k src =
    (State.genBlock^[k] s).deliver (xorBytes src (keystream s.key s.nonce s.ctr (64 * k))) := by
  induction k generalizing src s with
  | zero => simp [State.applyChunks, keystream, xorBytes, State.deliver]
  | succ k ih =>
    have hstream : keystream s.key s.nonce s.ctr (64 * (k + 1)) =
        s.genBlock.blockBytes ++ keystream s.key s.nonce (s.ctr + 1) (64 * k) := by
      rw [genBlock_blockBytes, ← keystream_block, Nat.mul_succ, Nat.add_comm]
      exact keystream_add s.key s.nonce s.ctr 1 (64 * k)
    have hsplit := xorBytes_take_append_drop 64 src (keystream s.key s.nonce s.ctr (64 * (k + 1)))
    rw [hstream, List.take_left' (blockBytes_length _), List.drop_left' (blockBytes_length _)] at hsplit
    rw [applyChunks_succ, ih, ((genBlock_commute_deliver _).iterate_left k).eq, hstream, ← hsplit]
    simp [State.deliver]

/-- R120, R122: the bytes that a served `XORKS` of `len` bytes hands over. -/
def State.combined (len : Nat) (s : State) : List Byte :=
  xorBytes (s.port.din.take len) (keystream s.key s.nonce s.ctr len)

theorem State.length_combined {len : Nat} {s : State} (h : len ≤ s.port.din.length) :
    (s.combined len).length = len := by simp [State.combined, h]

/-- R66, R120: `bytes` are handed over for a payload of `len` bytes, and the response is `OK`. -/
def State.handOver (len : Nat) (bytes : List Byte) (s : State) : State :=
  ((s.deliver bytes).consume len).answer .ok

/-- R66, R127: handing over twice is handing over once, but for the second response. -/
theorem State.handOver_handOver (m n : Nat) (a b : List Byte) (s : State) :
    (s.handOver m a).handOver n b = { s.handOver (m + n) (a ++ b) with
      port := { (s.handOver (m + n) (a ++ b)).port with rsp := s.port.rsp ++ [.ok, .ok] } } := by
  simp [State.handOver, State.deliver, State.consume, State.answer]

/-- R104 to R107: block generation neither reads nor writes what a hand-over writes. -/
theorem genBlock_commute_handOver (len : Nat) (bytes : List Byte) :
    Function.Commute State.genBlock (State.handOver len bytes) := fun s => by
  rw [State.genBlock_eq, State.genBlock_eq]
  rfl

/-- R120 to R122: a served `XORKS` generates a block per chunk and hands over the combined bytes. -/
theorem xorksNow_eq (len : Nat) (s : State) :
    s.xorksNow len = (State.genBlock^[chunkCount len] s).handOver len (s.combined len) := by
  have hlen : len ≤ 64 * chunkCount len := by
    change len ≤ 64 * ((len + 63) / 64)
    omega
  have htake : (s.port.din.take len).length ≤ len := List.length_take_le len _
  rw [State.xorksNow, applyChunks_eq, memRead, List.drop_zero,
    xorBytes_keystream_of_le _ _ _ (htake.trans hlen), ← xorBytes_keystream_of_le _ _ _ htake]
  rfl

/-- R66, R120, R122: the interface after a served `XORKS`. -/
theorem xorksNow_port (len : Nat) (s : State) : (s.xorksNow len).port = { s.port with
    din := s.port.din.drop len, dout := s.port.dout ++ s.combined len, rsp := s.port.rsp ++ [.ok] } := by
  simp [xorksNow_eq, State.handOver, State.answer, State.consume, State.deliver, iterate_genBlock_port]

theorem xorksNow_dout (len : Nat) (s : State) :
    (s.xorksNow len).port.dout = s.port.dout ++ s.combined len := by rw [xorksNow_port]

/-- Settles O22: the blocks of the chunks as a record of what they write, and the hand-over. -/
theorem xorksResult : Obligations.XorksResult := by
  intro len s hkeyed hdin hdout hrsp
  rw [exec_xorks_of_served hkeyed hdin hdout hrsp, xorksNow_eq]
  cases len with
  | zero =>
    simp [chunkCount_zero, State.handOver, State.combined, xorBytes, State.deliver, State.consume,
      State.answer]
  | succ n =>
    have hcount : chunkCount (n + 1) = n / 64 + 1 := Nat.add_div_right n (Nat.zero_lt_succ 63)
    have hblocks : (n + 1 + 63) / 64 = n / 64 + 1 := hcount
    rw [hcount, iterate_genBlock_succ, hblocks]
    rfl

/-- Settles O23: on a keyed unit the rule of `XORKS`, on another an error without payload. -/
theorem xorksOfNothing : Obligations.XorksOfNothing := by
  intro s hrsp
  by_cases hkeyed : s.keyed = true
  · simpa [hkeyed] using xorksResult 0 s hkeyed (Nat.zero_le _) (.inl rfl) hrsp
  · rw [exec, execXorks_eq, if_neg hkeyed, if_neg hkeyed,
      State.atOnce_of_served (Nat.zero_le _) (.inl rfl) hrsp]
    rfl

/-! ### Decryption -/

/-- R102: a served `RESET`. -/
theorem exec_reset_of_served {s : State} (hrsp : s.port.rspReady = true) :
    exec .reset s = .next (s.clearCtr.answer .ok) := resetClearsCounterOnly s hrsp

/-- R9, R125: the combined bytes of all that is offered, combined again at the same counter. -/
theorem combined_combined {s t : State} (hkey : t.key = s.key) (hnonce : t.nonce = s.nonce)
    (hctr : t.ctr = s.ctr) (hdin : t.port.din = s.combined s.port.din.length) :
    t.combined s.port.din.length = s.port.din := by
  have hout : s.combined s.port.din.length =
      xorBytes s.port.din (keystream s.key s.nonce s.ctr s.port.din.length) := by
    rw [State.combined, List.take_length]
  rw [State.combined, hkey, hnonce, hctr, hdin, hout, List.take_of_length_le (by simp),
    xorBytes_xorBytes (by simp)]

/-- R125: `XORKS` of all that is offered, from counter 0, then `RESET` and `XORKS` of the output. -/
theorem exec_xorks_of_output {s : State} (hctr : s.ctr = 0) (hkeyed : s.keyed = true)
    (hdout : s.port.doutReady = true) (hrsp : s.port.rspReady = true) :
    ∃ d, exec (.xorks s.port.din.length) (((s.xorksNow s.port.din.length).clearCtr.answer
        .ok).offerPayload (s.combined s.port.din.length)) = .next d ∧
      d.port.dout = (s.xorksNow s.port.din.length).port.dout ++ s.port.din := by
  obtain ⟨hkeep, -⟩ := xorksNow_keepsKey s.port.din.length s
  have hhost := xorksNow_keepsHost s.port.din.length s
  have hport := xorksNow_port s.port.din.length s
  generalize s.xorksNow s.port.din.length = b at *
  have hoffer : ((b.clearCtr.answer .ok).offerPayload (s.combined s.port.din.length)).port.din =
      s.combined s.port.din.length := by
    simp [State.offerPayload, hport]
  have hback : ((b.clearCtr.answer .ok).offerPayload (s.combined s.port.din.length)).combined
      s.port.din.length = s.port.din := combined_combined hkeep.key hkeep.nonce hctr.symm hoffer
  refine ⟨_, exec_xorks_of_served (hkeep.keyed.trans hkeyed)
    (by rw [hoffer, State.length_combined le_rfl])
    (.inr (hhost.doutReady.trans hdout)) (hhost.rspReady.trans hrsp), ?_⟩
  rw [xorksNow_dout, hback]
  rfl

/-- Settles O45: the two commands from counter 0, the first of them after the first `RESET`. -/
theorem encryptThenDecrypt : Obligations.EncryptThenDecrypt := by
  rintro s P hkeyed rfl hdout hrsp
  have hfirst : exec (.xorks s.port.din.length) (s.clearCtr.answer .ok) = _ :=
    exec_xorks_of_served hkeyed le_rfl (.inr hdout) hrsp
  obtain ⟨d, hsecond, hd⟩ := exec_xorks_of_output (s := s.clearCtr.answer .ok) rfl hkeyed hdout hrsp
  exact ⟨_, _, _, d, _, exec_reset_of_served hrsp, hfirst, xorksNow_dout _ _,
    State.length_combined le_rfl,
    exec_reset_of_served ((xorksNow_keepsHost _ _).rspReady.trans hrsp), hsecond, hd⟩

/-! ### Buffers with a common start -/

/-- R126: what an `XORKS` hands over begins with `A`, combined with keystream that the length of `A`
fixes. -/
theorem exec_xorks_append {s : State} (hkeyed : s.keyed = true) (hdout : s.port.doutReady = true)
    (hrsp : s.port.rspReady = true) (A B : List Byte) :
    ∃ t rest,
      exec (.xorks (A ++ B).length) { s with port := { s.port with din := A ++ B } } = .next t ∧
      t.port.dout = s.port.dout ++ xorBytes A (keystream s.key s.nonce s.ctr A.length) ++ rest := by
  have hle : A.length ≤ (A ++ B).length := by simp
  refine ⟨_, (xorBytes (A ++ B) (keystream s.key s.nonce s.ctr (A ++ B).length)).drop A.length,
    exec_xorks_of_served hkeyed le_rfl (.inr hdout) hrsp, ?_⟩
  rw [xorksNow_dout, List.append_assoc, ← take_xorBytes_keystream _ _ _ A B hle,
    List.take_append_drop, State.combined, List.take_length]

/-- Settles O46: the bytes for the common start are the same whatever follows. -/
theorem outputOfAPrefixIsAPrefix : Obligations.OutputOfAPrefixIsAPrefix := by
  intro s A B B' hkeyed hdout hrsp
  obtain ⟨t, rest, ht, hout⟩ := exec_xorks_append hkeyed hdout hrsp A B
  obtain ⟨t', rest', ht', hout'⟩ := exec_xorks_append hkeyed hdout hrsp A B'
  exact ⟨t, t', _, rest, rest', ht, ht', by simp, hout, hout'⟩

/-! ### Buffers cut between two commands -/

/-- R122, R127: the combined bytes of a buffer are those of its part before a cut, and those of its part
behind the cut at the counter reached there. -/
theorem combined_add {m n : Nat} (h : m % 64 = 0 ∨ n = 0) {s : State}
    (hdin : m + n ≤ s.port.din.length) :
    s.combined m ++ (s.xorksNow m).combined n = s.combined (m + n) := by
  obtain ⟨hkeep, hctr⟩ := xorksNow_keepsKey m s
  have hctr' : (s.xorksNow m).ctr = s.ctr + BitVec.ofNat 64 (chunkCount m) := hctr
  have hlen : (s.port.din.take m).length = (keystream s.key s.nonce s.ctr m).length := by
    rw [List.length_take, keystream_length, Nat.min_eq_left (by omega)]
  rw [State.combined, State.combined, State.combined, hkeep.key, hkeep.nonce, hctr', xorksNow_port,
    List.take_add, ← keystream_append h, xorBytes, xorBytes, xorBytes, List.zipWith_append hlen]

/-- R127: two served `XORKS` that cut a buffer between two chunks, or at its end. -/
theorem xorksNow_xorksNow {m n : Nat} (h : m % 64 = 0 ∨ n = 0) {s : State}
    (hdin : m + n ≤ s.port.din.length) : (s.xorksNow m).xorksNow n = { s.xorksNow (m + n) with
      port := { (s.xorksNow (m + n)).port with rsp := s.port.rsp ++ [.ok, .ok] } } := by
  rw [xorksNow_eq n, xorksNow_eq (m + n), ← combined_add h hdin, xorksNow_eq m,
    ((genBlock_commute_handOver m _).iterate_left _).eq, ← Function.iterate_add_apply,
    Nat.add_comm (chunkCount n), ← chunkCount_add h, State.handOver_handOver, iterate_genBlock_port]

/-- Settles O47: both parts are served as the whole is. -/
theorem splitAtBlockBoundary : Obligations.SplitAtBlockBoundary := by
  intro s n len hkeyed hle hcut hdin hdout hrsp
  obtain ⟨m, rfl⟩ := Nat.exists_eq_add_of_le hle
  have hcut' : n % 64 = 0 ∨ m = 0 := hcut.imp_right (by omega)
  obtain ⟨hkeep, -⟩ := xorksNow_keepsKey n s
  have hhost := xorksNow_keepsHost n s
  have hrest : n + m - n ≤ (s.xorksNow n).port.din.length := by
    rw [xorksNow_port, List.length_drop]
    omega
  refine ⟨_, _, _, exec_xorks_of_served hkeyed (hle.trans hdin) (.inr hdout) hrsp,
    exec_xorks_of_served (hkeep.keyed.trans hkeyed) hrest (.inr (hhost.doutReady.trans hdout))
      (hhost.rspReady.trans hrsp), exec_xorks_of_served hkeyed hdin (.inr hdout) hrsp, ?_⟩
  rw [Nat.add_sub_cancel_left, xorksNow_xorksNow hcut' hdin]

end Sys2Proof.Machine
end

section
/-! Scope: what a command in error does and that nothing stops the unit; an unkeyed unit hands over no
output byte; the units of a platform share nothing (spec/60_exceptions.md R132, R134, R136, R138, R144;
10_state.md R35). -/

namespace Sys2Proof.Machine

/-! ### Commands in error -/

/-- R132: `INIT` of any other pair of lengths is a length error. -/
theorem exec_init_of_wrong_lengths {klen nlen : Nat} (h : ¬(klen = 32 ∧ nlen = 16)) (s : State) :
    exec (.init klen nlen) s = .next (s.fail .lengthError (klen + nlen)) := by
  rw [exec, execInit, if_neg (mt lengthsRight_iff.mp h)]

/-- R134: `GENBLOCK` on an unkeyed unit. -/
theorem exec_genblock_of_unkeyed {s : State} (hk : s.keyed = false) :
    exec .genblock s = .next (s.fail .notKeyed 0) := by
  rw [exec, execGenblock, if_neg (ne_true_of_eq_false hk)]

/-- R134: `XORKS` on an unkeyed unit. -/
theorem exec_xorks_of_unkeyed (len : Nat) {s : State} (hk : s.keyed = false) :
    exec (.xorks len) s = .next (s.fail .notKeyed len) := by
  rw [exec, execXorks, if_neg (ne_true_of_eq_false hk)]

/-- R138: an error that the host serves discards the payload, answers, and changes nothing else. -/
theorem fail_eq_of_served {s : State} {n : Nat} (hdin : n ≤ s.port.din.length)
    (hrsp : s.port.rspReady = true) (r : Response) : s.fail r n = { s with
      busy := false, task := none
      port := { s.port with din := s.port.din.drop n, rsp := s.port.rsp ++ [r] } } :=
  fail_of_served (served_iff.mpr ⟨hdin, .inl rfl, hrsp⟩)

/-- Settles O24: each is an error of the length of its payload, and the host serves it. -/
theorem errorsChangeNothing : Obligations.ErrorsChangeNothing := by
  refine ⟨fun klen nlen s hlen hdin hrsp => ?_, fun s hk hrsp => ?_, fun len s hk hdin hrsp => ?_⟩
  · rw [exec_init_of_wrong_lengths hlen, fail_eq_of_served hdin hrsp]
  · rw [exec_genblock_of_unkeyed hk, fail_eq_of_served (Nat.zero_le _) hrsp, List.drop_zero]
  · rw [exec_xorks_of_unkeyed len hk, fail_eq_of_served hdin hrsp]

/-- Settles O31: every arm of `exec` answers a next state, and every case of `step`. -/
theorem nothingStopsTheUnit : Obligations.NothingStopsTheUnit := ⟨exec_eq_next, step_eq_next⟩

/-! ### An unkeyed unit hands over no output byte -/

/-- R138: an error hands over no output byte, at once or accepted. -/
theorem fail_dout (r : Response) (n : Nat) (s : State) : (s.fail r n).port.dout = s.port.dout := by
  rcases fail_cases s r n with ⟨-, h⟩ | ⟨-, h⟩ <;> rw [h] <;> rfl

/-- R134: no instruction hands over an output byte on an unkeyed unit. -/
theorem exec_dout_of_unkeyed {i : Instr} {s t : State} (hk : s.keyed = false)
    (h : exec i s = .next t) : t.port.dout = s.port.dout := by
  cases i with
  | init klen nlen =>
    by_cases hlen : klen = 32 ∧ nlen = 16
    · rw [exec, execInit, if_pos (lengthsRight_iff.mpr hlen)] at h
      cases h
      split <;> rfl
    · rw [exec_init_of_wrong_lengths hlen] at h
      cases h
      exact fail_dout ..
  | reset =>
    cases h
    split <;> rfl
  | genblock =>
    rw [exec_genblock_of_unkeyed hk] at h
    cases h
    exact fail_dout ..
  | xorks len =>
    rw [exec_xorks_of_unkeyed len hk] at h
    cases h
    exact fail_dout ..
  | rndE => cases h; rfl
  | rndO => cases h; rfl

/-- R134: a task that hands over an output byte needs the key. -/
theorem nextByte_of_not_needsKey {k : Task} (h : k.needsKey = false) : k.nextByte = none := by
  cases k with
  | emit bytes resume => cases h
  | _ => rfl

/-- R134: a micro-step of a task that does not need the key hands over no output byte. -/
theorem progress_dout_of_not_needsKey {k : Task} (h : k.needsKey = false) (s : State) :
    (s.progress k).port.dout = s.port.dout := by
  rw [(progress_transfers k s).dout, nextByte_of_not_needsKey h]
  simp

/-- Settles O42: by the invariant the task in progress does not need the key, and a command that an
unkeyed unit takes hands nothing over. -/
theorem unkeyedUnitIsSilent : Obligations.UnkeyedUnitIsSilent := by
  intro s t hinv hkeyed h
  rcases step_cases s with ⟨-, hs⟩ | ⟨-, -, -, hs⟩ | ⟨-, -, -, hs⟩ | ⟨k, -, -, hk, hs⟩ |
    ⟨-, -, -, -, hs⟩ | ⟨w, ws, i, -, -, -, -, -, -, hs⟩ | ⟨w, ws, e, -, -, -, -, -, -, hs⟩ <;>
    rw [hs] at h
  case inr.inr.inr.inr.inr.inl => exact exec_dout_of_unkeyed (s := s.withCmd ws) hkeyed h
  all_goals cases h
  case inr.inr.inr.inl =>
    obtain ⟨-, -, hneeds⟩ := hinv.of_task hk
    exact progress_dout_of_not_needsKey (hneeds hkeyed) s
  case inr.inr.inr.inr.inr.inr => exact fail_dout .illegalCommand 0 (s.withCmd ws)
  -- the reset, the rounds and waiting leave the interface as it is
  all_goals rfl

/-! ### Several units -/

/-- R35: there is no unit `u`, and nothing happens. -/
theorem Bank.stepUnit_of_none {b : Bank} {u : Nat} (h : b[u]? = none) :
    b.stepUnit u = .next b := by
  rw [Bank.stepUnit, h]

/-- R35, R144: the step of unit `u` replaces that unit. -/
theorem Bank.stepUnit_of_some {b : Bank} {u : Nat} {s t : State} (h : b[u]? = some s)
    (hstep : step s = .next t) : b.stepUnit u = .next (b.set u t) := by
  simp only [Bank.stepUnit, h, hstep]

/-- Settles O54: a step replaces one entry of the list of units. -/
theorem unitsShareNothing : Obligations.UnitsShareNothing := by
  intro b b' u h
  cases hu : b[u]? with
  | none =>
    rw [Bank.stepUnit_of_none hu] at h
    cases h
    exact ⟨rfl, fun _ _ => rfl, nofun⟩
  | some s =>
    obtain ⟨t, ht⟩ := step_eq_next s
    rw [Bank.stepUnit_of_some hu ht] at h
    cases h
    refine ⟨List.length_set, fun v hv => List.getElem?_set_ne hv.symm, fun s' hs' => ?_⟩
    obtain rfl : s = s' := Option.some.inj hs'
    obtain ⟨hlt, -⟩ := List.getElem?_eq_some_iff.mp hu
    exact ⟨t, ht, List.getElem?_set_self hlt⟩

end Sys2Proof.Machine
end

section
/-! Scope: hardware reset, a unit that the host keeps waiting, and a command whose host is fair
(spec/70_reset_and_hazards.md R150, R152, R160, R163; 30_encoding.md R60, R66; 93 U14). -/

namespace Sys2Proof.Machine

/-! ### Hardware reset -/

/-- R60: with `rst` asserted the unit offers nothing and takes nothing on any channel. -/
theorem handshakes_of_rst {s : State} (hr : s.port.rst = true) :
    s.cmdReady = false ∧ s.dinReady = false ∧ s.doutOffer = none ∧ s.rspOffer = none := by
  simp [State.cmdReady, State.dinReady, State.doutOffer, State.rspOffer, hr]

/-- Settles O28: the step is the hardware reset, which leaves `rst` asserted. -/
theorem hardwareResetWins : Obligations.HardwareResetWins := by
  intro s hr
  obtain ⟨hcmd, hdin, hdout, hrsp⟩ := handshakes_of_rst hr
  exact ⟨s.hardwareReset, step_of_rst hr, rfl, rfl, rfl, rfl, rfl, rfl, rfl, rfl, rfl, rfl, rfl,
    hcmd, hdin, hdout, hrsp, handshakes_of_rst (s := s.hardwareReset) hr⟩

/-! ### Waiting -/

/-- R60: a task waits for payload when a byte is due and none is offered. -/
theorem exists_succ_of_payload_waits {left : Nat} {din : List Byte}
    (h : (decide (0 < left) && din.isEmpty) = true) : ∃ n, left = n + 1 ∧ din = [] := by
  obtain ⟨hleft, hdin⟩ : 0 < left ∧ din = [] := by simpa using h
  exact ⟨left - 1, by omega, hdin⟩

/-- R160, R163: a task whose payload byte, output byte or response waits for the host changes
nothing. -/
theorem progress_of_blocked {t : Task} {s : State} (h : t.blocked s.port = true) :
    s.progress t = s := by
  cases t with
  | discard left r =>
    obtain ⟨n, rfl, hdin⟩ := exists_succ_of_payload_waits h
    simp [State.progress, State.progressDiscard, hdin]
  | takeInit left got =>
    obtain ⟨n, rfl, hdin⟩ := exists_succ_of_payload_waits h
    simp [State.progress, State.progressInit, hdin]
  | takeSrc off len left got =>
    obtain ⟨n, rfl, hdin⟩ := exists_succ_of_payload_waits h
    simp [State.progress, State.progressSrc, hdin]
  | emit bytes resume =>
    obtain ⟨hbytes, hready⟩ : bytes ≠ [] ∧ s.port.doutReady = false := by
      simpa [Task.blocked] using h
    obtain ⟨b, rest, rfl⟩ := List.exists_cons_of_ne_nil hbytes
    simp [State.progress, State.progressEmit, hready]
  | respond r =>
    have hready : s.port.rspReady = false := by simpa [Task.blocked] using h
    simp [State.progress, hready]
  | genblock => cases h
  | chunk off len => cases h

/-- Settles O32: a blocked micro-step, and an idle unit without a command word. -/
theorem waitingChangesNothing : Obligations.WaitingChangesNothing := by
  refine ⟨fun s t hr hp ht hblocked => ?_, fun s => step_of_idle⟩
  rw [step_of_task hr hp ht, progress_of_blocked hblocked]

/-! ### How much is left of a command

With a fair host the payload that is due stays offered and `State.stepsLeft` falls with every step. -/

/-- R120: a bound on the steps from the loop head of `XORKS` at `off`: fewer than 100 for each byte
to come (the worst chunk has one byte: its block, the byte in, the byte out), and two to answer. -/
def chunksSteps (off len : Nat) : Nat := 100 * (len - off) + 2

/-- R163: a bound on the micro-steps that a task takes with a fair host, from outside a block
generation; each task costs more than the one it goes on with. -/
def Task.stepsLeft : Task → Nat
  | .discard left _             => left + 2
  | .takeInit left _            => left + 2
  | .genblock                   => 100
  | .chunk off len              => chunksSteps off len
  | .takeSrc off len left got   => 2 * left + got.length + chunksSteps (off + min 64 (len - off)) len + 2
  | .emit bytes none            => bytes.length + 2
  | .emit bytes (some (off, len)) => bytes.length + chunksSteps off len + 1
  | .respond _                  => 1

/-- R163: a bound on the steps to the end of the command in progress: in a block generation the rounds
to come, and what remains when the block is ready. -/
def State.stepsLeft (s : State) : Nat :=
  match s.task, s.phase with
  | none, _        => 0
  | some t, .idle  => t.stepsLeft
  | some t, .gen   => 32 - s.rnd.toNat + (t.afterBlock s.blockBytes).stepsLeft

theorem stepsLeft_of_idle {s : State} {t : Task} (ht : s.task = some t) (hp : s.phase = .idle) :
    s.stepsLeft = t.stepsLeft := by simp [State.stepsLeft, ht, hp]

theorem stepsLeft_of_gen {s : State} {t : Task} (ht : s.task = some t) (hp : s.phase = .gen) :
    s.stepsLeft = 32 - s.rnd.toNat + (t.afterBlock s.blockBytes).stepsLeft := by
  simp [State.stepsLeft, ht, hp]

/-- What remains after a block does not depend on the block. -/
theorem stepsLeft_afterBlock {block block' : List Byte} (h : block.length = block'.length) (t : Task) :
    (t.afterBlock block).stepsLeft = (t.afterBlock block').stepsLeft := by
  cases t with
  | genblock => simp [Task.afterBlock, Task.stepsLeft, h]
  | _ => rfl

/-- A finished block leaves as much payload due as before it. -/
theorem owed_afterBlock {t : Task} (hg : t.generates = true) (block : List Byte) :
    (t.afterBlock block).owed = t.owed := by
  cases t with
  | genblock => rfl
  | chunk off len =>
    rw [afterBlock_chunk]
    simp only [Task.owed]
    omega
  | _ => cases hg

/-- A block generation costs a task less than the task has left. -/
theorem stepsLeft_afterBlock_lt {t : Task} (hg : t.generates = true) {block : List Byte}
    (hlen : block.length = 64) : 32 + (t.afterBlock block).stepsLeft < t.stepsLeft := by
  cases t with
  | genblock => simp [Task.afterBlock, Task.stepsLeft, hlen]
  | chunk off len =>
    have hlt : off < len := of_decide_eq_true hg
    rw [afterBlock_chunk]
    simp only [Task.stepsLeft, chunksSteps, List.length_nil]
    omega
  | _ => cases hg

/-- R163: the command in progress, if any, has its payload offered and fewer than `n` steps left. -/
structure State.Within (n : Nat) (s : State) : Prop where
  due   : ∀ t, s.task = some t → t.owed ≤ s.port.din.length
  fewer : s.stepsLeft < n

/-- Outside a block generation the command goes on with `t`. -/
theorem within_goOn {n : Nat} {t : Task} {s : State} (hp : s.phase = .idle)
    (hdue : t.owed ≤ s.port.din.length) (hfewer : t.stepsLeft < n) : (s.goOn t).Within n where
  due t' ht' := by
    obtain rfl : t = t' := Option.some.inj ht'
    exact hdue
  fewer := by rwa [stepsLeft_of_idle (State.goOn_task t s) hp]

/-- R66: the command takes a payload byte that is due and goes on with `t'`. -/
theorem within_take {n : Nat} {t t' : Task} {s : State} (hp : s.phase = .idle)
    (hdue : t.owed ≤ s.port.din.length) (howed : t.owed = t'.owed + 1) (hfewer : t'.stepsLeft < n) :
    ((s.consume 1).goOn t').Within n :=
  within_goOn (s := s.consume 1) hp (by rw [State.consume_din, List.length_drop]; omega) hfewer

/-- R104: the load of a block for the task in progress. -/
theorem within_stateLoad {t : Task} {s : State} (ht : s.task = some t) (hg : t.generates = true)
    (hdue : t.owed ≤ s.port.din.length) : s.stateLoad.Within t.stepsLeft where
  due t' ht' := by
    obtain rfl : t = t' := Option.some.inj (ht.symm.trans ht')
    exact hdue
  fewer := by
    rw [stepsLeft_of_gen (s := s.stateLoad) ht rfl]
    exact stepsLeft_afterBlock_lt hg (blockBytes_length _)

/-- R163: with a fair host a micro-step brings its task closer to the end. -/
theorem progress_within {s : State} {t : Task} (hp : s.phase = .idle) (ht : s.task = some t)
    (hsound : t.sound = true) (hdue : t.owed ≤ s.port.din.length) (hdout : s.port.doutReady = true)
    (hrsp : s.port.rspReady = true) : (s.progress t).Within t.stepsLeft := by
  cases t with
  | discard left r =>
    cases left with
    | zero => exact within_goOn hp (Nat.zero_le _) (by simp [Task.stepsLeft])
    | succ n =>
      obtain ⟨b, rest, hdin⟩ := List.exists_cons_of_length_pos (Nat.zero_lt_of_lt hdue)
      rw [progress_discard_cons hdin]
      exact within_take hp hdue rfl (by simp [Task.stepsLeft])
  | takeInit left got =>
    cases left with
    | zero => exact within_goOn hp (Nat.zero_le _) (by simp [Task.stepsLeft])
    | succ n =>
      obtain ⟨b, rest, hdin⟩ := List.exists_cons_of_length_pos (Nat.zero_lt_of_lt hdue)
      rw [progress_takeInit_cons hdin]
      exact within_take hp hdue rfl (by simp [Task.stepsLeft])
  | genblock => exact within_stateLoad ht rfl hdue
  | chunk off len =>
    rw [State.progress, State.progressChunk]
    split
    case isTrue hlt => exact within_stateLoad ht (decide_eq_true hlt) hdue
    case isFalse => exact within_goOn hp (Nat.zero_le _) (by simp [Task.stepsLeft, chunksSteps])
  | takeSrc off len left got =>
    obtain ⟨-, -, -, hgot⟩ := sound_takeSrc_iff.mp hsound
    cases left with
    | zero =>
      simp only [Task.owed] at hdue
      refine within_goOn hp ?_ ?_
      · simp only [Task.owed, resumeOwed]
        omega
      · simp only [Task.stepsLeft, chunksSteps, xorBytes_length, blockBytes_length]
        omega
    | succ n =>
      obtain ⟨b, rest, hdin⟩ := List.exists_cons_of_length_pos
        (Nat.zero_lt_of_lt (Nat.le_of_add_right_le hdue))
      rw [progress_takeSrc_cons hdin]
      refine within_take hp hdue ?_ ?_
      · simp only [Task.owed]
        omega
      · simp only [Task.stepsLeft, List.length_append, List.length_singleton]
        omega
  | emit bytes resume =>
    cases bytes with
    | nil =>
      cases resume with
      | none => exact within_goOn hp (Nat.zero_le _) (by simp [Task.stepsLeft])
      | some p => exact within_goOn hp hdue (by simp [Task.stepsLeft])
    | cons b rest =>
      simp only [State.progress, State.progressEmit, hdout, if_true]
      exact within_goOn hp hdue (by cases resume <;> simp [Task.stepsLeft])
  | respond r =>
    simp only [State.progress, hrsp, if_true]
    exact ⟨nofun, Nat.one_pos⟩

/-- R105: a round that is not the last brings the task closer to the end. -/
theorem roundStep_within {s : State} {t : Task} (p : Parity) (hp : s.phase = .gen) (hl : s.rnd ≠ 31)
    (ht : s.task = some t) (hdue : t.owed ≤ s.port.din.length) :
    (s.roundStep p).Within s.stepsLeft where
  due t' ht' := by
    obtain rfl : t = t' := Option.some.inj (ht.symm.trans ht')
    exact hdue
  fewer := by
    have hblock : (s.roundStep p).blockBytes.length = s.blockBytes.length := by
      rw [blockBytes_length, blockBytes_length]
    have hrnd : (s.rnd + 1).toNat = s.rnd.toNat + 1 := by bv_omega
    rw [stepsLeft_of_gen ht hp, stepsLeft_of_gen (s := s.roundStep p) ht hp,
      stepsLeft_afterBlock hblock, State.roundStep_rnd, hrnd]
    omega

/-- R106: so does the last round, with which the block is finished. -/
theorem finishBlock_within {s : State} {t : Task} (p : Parity) (hp : s.phase = .gen)
    (ht : s.task = some t) (hg : t.generates = true) (hdue : t.owed ≤ s.port.din.length) :
    (s.roundStep p).finishBlock.Within s.stepsLeft := by
  have ht' : (s.roundStep p).finishBlock.task =
      some (t.afterBlock (s.roundStep p).blockBytes) := by simp [ht]
  have hblock : (s.roundStep p).blockBytes.length = s.blockBytes.length := by
    rw [blockBytes_length, blockBytes_length]
  refine ⟨fun k hk => ?_, ?_⟩
  · obtain rfl := Option.some.inj (ht'.symm.trans hk)
    rw [owed_afterBlock hg]
    exact hdue
  · rw [stepsLeft_of_gen ht hp, stepsLeft_of_idle ht' rfl, stepsLeft_afterBlock hblock]
    have hrnd := s.rnd.isLt
    omega

/-! ### A fair host -/

/-- R163: no reset; the host has offered the payload still due and takes output and response. -/
structure State.Fair (s : State) : Prop where
  inv       : s.Inv
  rst       : s.port.rst = false
  due       : ∀ t, s.task = some t → t.owed ≤ s.port.din.length
  doutReady : s.port.doutReady = true
  rspReady  : s.port.rspReady = true

/-- R163: with a fair host every step brings the command in progress closer to its end. -/
theorem State.Fair.step_within {s u : State} {t : Task} (h : s.Fair) (ht : s.task = some t)
    (hstep : step s = .next u) : u.Within s.stepsLeft := by
  have hdue := h.due t ht
  cases hp : s.phase with
  | idle =>
    obtain ⟨-, hsound, -⟩ := h.inv.of_task ht
    obtain rfl := Host.Outcome.next.inj ((step_of_task h.rst hp ht).symm.trans hstep)
    rw [stepsLeft_of_idle ht hp]
    exact progress_within hp ht hsound hdue h.doutReady h.rspReady
  | gen =>
    obtain ⟨t', ht', hg, -, -⟩ := h.inv.task_of_gen hp
    obtain rfl : t = t' := Option.some.inj (ht.symm.trans ht')
    obtain rfl := Host.Outcome.next.inj ((step_of_gen h.rst hp).symm.trans hstep)
    split
    case isTrue => exact finishBlock_within _ hp ht hg hdue
    case isFalse hl => exact roundStep_within _ hp hl ht hdue

/-- R60: a step of a unit without reset leaves the host's inputs as they are. -/
theorem State.Fair.step {s u : State} {t : Task} (h : s.Fair) (ht : s.task = some t)
    (hstep : Machine.step s = .next u) : u.Fair := by
  obtain ⟨-, -, -, -, hrst, hdout, hrsp⟩ := transfersAreNeverUndone s u hstep
  exact ⟨stepKeepsTheInvariant s u h.inv hstep, hrst.trans h.rst, (h.step_within ht hstep).due,
    hdout.trans h.doutReady, hrsp.trans h.rspReady⟩

/-- R111: between commands the sequencer is idle. -/
theorem State.Fair.idle {s : State} (h : s.Fair) (ht : s.task = none) : s.Idle where
  rst := h.rst
  phase := by
    cases hp : s.phase with
    | idle => rfl
    | gen =>
      obtain ⟨t, ht', -⟩ := h.inv.task_of_gen hp
      exact nomatch ht.symm.trans ht'
  busy := by rw [h.inv.busy, ht]; rfl
  task := ht

/-- R66: a command in progress ends with one response, and hands none over before. -/
theorem Transfers.rsp_of_fair {k : Task} {s u : State} (h : Transfers k s u) (hs : s.Fair)
    (hk : s.task = some k) (hu : u.Inv) :
    (u.task = none ∧ ∃ r, u.port.rsp = s.port.rsp ++ [r]) ∨
      ((∃ t, u.task = some t) ∧ u.port.rsp = s.port.rsp) := by
  obtain ⟨hbusy, -, -⟩ := hs.inv.of_task hk
  have hrsp := h.rsp
  have hend := h.busy
  rw [hu.busy, hbusy, hs.rspReady] at hend
  rw [hs.rspReady] at hrsp
  cases hr : k.response with
  | none =>
    exact .inr ⟨Option.isSome_iff_exists.mp (by simpa [hr] using hend), by simpa [hr] using hrsp⟩
  | some r => exact .inl ⟨by simpa [hr] using hend, r, by simpa [hr] using hrsp⟩

/-- R163: a command with a fair host ends, by induction on a bound on the steps left. -/
theorem State.Fair.reaches_idle {n : Nat} {s : State} {t : Task} (h : s.Fair) (ht : s.task = some t)
    (hn : s.stepsLeft < n) : ∃ u r, Reaches s u ∧ u.Idle ∧ u.port.cmd = s.port.cmd ∧
      u.port.rsp = s.port.rsp ++ [r] := by
  induction n generalizing s t with
  | zero => omega
  | succ n ih =>
    obtain ⟨v, hv⟩ := step_eq_next s
    have hfair := h.step ht hv
    obtain ⟨htransfers, hcmd⟩ := step_transfers h.inv h.rst ht hv
    rcases htransfers.rsp_of_fair h ht hfair.inv with ⟨hend, r, hrsp⟩ | ⟨⟨t', ht'⟩, hrsp⟩
    · exact ⟨v, r, .of_step hv, hfair.idle hend, hcmd, hrsp⟩
    · have hfewer := (h.step_within ht hv).fewer
      obtain ⟨u, r, hrun, hidle, hcmd', hrsp'⟩ := ih hfair ht' (by omega)
      exact ⟨u, r, .head hv hrun, hidle, hcmd'.trans hcmd, hrsp'.trans (by rw [hrsp])⟩

/-- Settles O51: the steps left of the command in progress run out, and it ends with its response. -/
theorem fairHostSeesEveryCommandEnd : Obligations.FairHostSeesEveryCommandEnd := by
  intro s t hinv hr ht hdue hdout hrsp
  have hfair : s.Fair := by
    refine ⟨hinv, hr, fun t' ht' => ?_, hdout, hrsp⟩
    obtain rfl : t = t' := Option.some.inj (ht.symm.trans ht')
    exact hdue
  obtain ⟨u, r, ⟨k, hk⟩, hidle, hcmd, hresponse⟩ := hfair.reaches_idle ht (Nat.lt_succ_self _)
  exact ⟨k, u, r, hk, hidle, hcmd, hresponse⟩

end Sys2Proof.Machine
end

section
/-! Scope: a command that the host does not serve at once is accepted, and what remains of it
(spec/10_state.md R29; 30_encoding.md R66; 70_reset_and_hazards.md R163; log 1). -/

namespace Sys2Proof.Machine

/-! ### A host that does not serve a command -/

/-- R66, R163: without the whole payload, or with a response not taken, no command is served. -/
theorem served_eq_false_of_payload_or_response {s : State} {nIn : Nat}
    (h : s.port.din.length < nIn ∨ s.port.rspReady = false) (nOut : Nat) :
    s.served nIn nOut = false := by
  refine Bool.eq_false_iff.mpr fun hserved => ?_
  obtain ⟨hdin, -, hrsp⟩ := served_iff.mp hserved
  rcases h with hshort | hwait
  · exact Nat.not_lt.mpr hdin hshort
  · exact ne_true_of_eq_false hwait hrsp

/-- R60, R163: with output bytes that the host does not take, no command is served. -/
theorem served_eq_false_of_output {s : State} {nOut : Nat} (hout : 0 < nOut)
    (hdout : s.port.doutReady = false) (nIn : Nat) : s.served nIn nOut = false := by
  refine Bool.eq_false_iff.mpr fun hserved => ?_
  obtain ⟨-, hnone | htaken, -⟩ := served_iff.mp hserved
  · exact Nat.ne_of_gt hout hnone
  · exact ne_true_of_eq_false hdout htaken

theorem State.atOnce_of_not_served {s : State} {nIn nOut : Nat} (h : s.served nIn nOut = false)
    (now : State → State) (t : Task) : s.atOnce nIn nOut now t = s.accept t :=
  if_neg (ne_true_of_eq_false h)

/-- R66, R163: whether or not a command passes its check, it is accepted when its payload or its
response waits, and the check decides what remains of it. -/
theorem State.ite_atOnce_eq_accept {s : State} {nIn : Nat}
    (h : s.port.din.length < nIn ∨ s.port.rspReady = false) (passes : Prop) [Decidable passes]
    (nOut : Nat) (now error : State → State) (t e : Task) :
    (if passes then s.atOnce nIn nOut now t else s.atOnce nIn 0 error e) =
      s.accept (if passes then t else e) := by
  rw [State.atOnce_of_not_served (served_eq_false_of_payload_or_response h nOut),
    State.atOnce_of_not_served (served_eq_false_of_payload_or_response h 0),
    apply_ite (State.accept · s)]

/-- Settles O25: each command is one that the host does not serve, for the payload, the response or
the output bytes. -/
theorem unservedCommandIsAccepted : Obligations.UnservedCommandIsAccepted := by
  refine ⟨fun klen nlen s hwait => ?init, fun s hrsp => ?reset, fun s hrsp => ?genblock,
    fun len s hwait => ?xorks, fun s hk hdout => ?genblockOutput,
    fun len s hk hlen hdout => ?xorksOutput⟩
  case init =>
    rw [exec, execInit_eq, State.ite_atOnce_eq_accept hwait]
    simp only [lengthsRight_iff, State.accept]
  case reset =>
    rw [exec, execReset_eq, State.atOnce_of_not_served
      (served_eq_false_of_payload_or_response (s := s.clearCtr) (.inr hrsp) 0)]
    rfl
  case genblock =>
    rw [exec, execGenblock_eq, State.ite_atOnce_eq_accept (.inr hrsp)]
    rfl
  case xorks =>
    rw [exec, execXorks_eq, State.ite_atOnce_eq_accept hwait]
    rfl
  case genblockOutput =>
    rw [exec, execGenblock_eq, if_pos hk,
      State.atOnce_of_not_served (served_eq_false_of_output (by decide) hdout 0)]
    rfl
  case xorksOutput =>
    rw [exec, execXorks_eq, if_pos hk,
      State.atOnce_of_not_served (served_eq_false_of_output hlen hdout len)]
    rfl

end Sys2Proof.Machine
end
